-- ==== Sys2Proof/Word.lean ====
section
/-! DEFINITION. The two word types of the block: the 8-bit data path and the 16-bit registers and
addresses (00_scope.md R8, R12). -/

namespace Sys2Proof

/-- An 8-bit value, the spec's `u8`. -/
abbrev Byte := BitVec 8

/-- A 16-bit value, the spec's `u16`: register pairs, SP, PC and bus addresses. -/
abbrev Word := BitVec 16

end Sys2Proof
end

