-- ==== Sys2Proof/Syntax.lean ====
section
/-! DEFINITION. The instructions: one constructor for each of the 512 rows of spec/opcode_table.json,
in the table's order with the illegal bytes last, and the operand fields of 30_encoding.md that the decoder, the encoder and the
meanings share. A constructor's name is the row's assembler form with the commas dropped: `m` marks a
memory operand, `i` and `d` the `(HL+)` and `(HL-)` forms. Its arguments are the bytes after the
opcode. -/

namespace Sys2Proof

/-- The `r8` operand field (R142); `mHL` is code 6, the memory byte at HL. -/
inductive R8 where
  | B | C | D | E | H | L | mHL | A
  deriving DecidableEq, Repr

/-- The `r16` operand field (R143). -/
inductive R16 where
  | BC | DE | HL | SP
  deriving DecidableEq, Repr

/-- The `r16stk` operand field of PUSH and POP (R144). -/
inductive R16Stk where
  | BC | DE | HL | AF
  deriving DecidableEq, Repr

/-- The `cc` condition field (R145). -/
inductive Cond where
  | NZ | Z | NC | C
  deriving DecidableEq, Repr

/-- The `r16mem` operand field (R146). -/
inductive R16Mem where
  | BC | DE | HLi | HLd
  deriving DecidableEq, Repr

/-- The `alu` field (R148). -/
inductive AluOp where
  | add | adc | sub | sbc | and | xor | or | cp
  deriving DecidableEq, Repr

/-- The `rot` field of the CB table (R149). -/
inductive RotOp where
  | rlc | rrc | rl | rr | sla | sra | swap | srl
  deriving DecidableEq, Repr

/-- A three-bit field read as a number 0 to 7: the `u3` bit index of BIT, RES and SET and the `y` of
RST (R147). -/
inductive U3 where
  | n0 | n1 | n2 | n3 | n4 | n5 | n6 | n7
  deriving DecidableEq, Repr

/-- An instruction. -/
inductive Instr where
  /-- `NOP` (R320). -/
  | nop
  /-- `LD BC,n16` (R202). -/
  | ld_BC_n16 (n : Word)
  /-- `LD (BC),A` (R177). -/
  | ld_mBC_A
  /-- `INC BC` (R261). -/
  | inc_BC
  /-- `INC B` (R237). -/
  | inc_B
  /-- `DEC B` (R239). -/
  | dec_B
  /-- `LD B,n8` (R173). -/
  | ld_B_n8 (n : Byte)
  /-- `RLCA` (R270). -/
  | rlca
  /-- `LD (a16),SP` (R203). -/
  | ld_ma16_SP (a : Word)
  /-- `ADD HL,BC` (R260). -/
  | add_HL_BC
  /-- `LD A,(BC)` (R175). -/
  | ld_A_mBC
  /-- `DEC BC` (R262). -/
  | dec_BC
  /-- `INC C` (R237). -/
  | inc_C
  /-- `DEC C` (R239). -/
  | dec_C
  /-- `LD C,n8` (R173). -/
  | ld_C_n8 (n : Byte)
  /-- `RRCA` (R271). -/
  | rrca
  /-- `STOP` (R326). -/
  | stop (ignored : Byte)
  /-- `LD DE,n16` (R202). -/
  | ld_DE_n16 (n : Word)
  /-- `LD (DE),A` (R178). -/
  | ld_mDE_A
  /-- `INC DE` (R261). -/
  | inc_DE
  /-- `INC D` (R237). -/
  | inc_D
  /-- `DEC D` (R239). -/
  | dec_D
  /-- `LD D,n8` (R173). -/
  | ld_D_n8 (n : Byte)
  /-- `RLA` (R272). -/
  | rla
  /-- `JR e8` (R303). -/
  | jr_e8 (e : Byte)
  /-- `ADD HL,DE` (R260). -/
  | add_HL_DE
  /-- `LD A,(DE)` (R176). -/
  | ld_A_mDE
  /-- `DEC DE` (R262). -/
  | dec_DE
  /-- `INC E` (R237). -/
  | inc_E
  /-- `DEC E` (R239). -/
  | dec_E
  /-- `LD E,n8` (R173). -/
  | ld_E_n8 (n : Byte)
  /-- `RRA` (R273). -/
  | rra
  /-- `JR NZ,e8` (R304). -/
  | jr_NZ_e8 (e : Byte)
  /-- `LD HL,n16` (R202). -/
  | ld_HL_n16 (n : Word)
  /-- `LD (HL+),A` (R181). -/
  | ld_mHLi_A
  /-- `INC HL` (R261). -/
  | inc_HL
  /-- `INC H` (R237). -/
  | inc_H
  /-- `DEC H` (R239). -/
  | dec_H
  /-- `LD H,n8` (R173). -/
  | ld_H_n8 (n : Byte)
  /-- `DAA` (R241). -/
  | daa
  /-- `JR Z,e8` (R304). -/
  | jr_Z_e8 (e : Byte)
  /-- `ADD HL,HL` (R260). -/
  | add_HL_HL
  /-- `LD A,(HL+)` (R179). -/
  | ld_A_mHLi
  /-- `DEC HL` (R262). -/
  | dec_HL
  /-- `INC L` (R237). -/
  | inc_L
  /-- `DEC L` (R239). -/
  | dec_L
  /-- `LD L,n8` (R173). -/
  | ld_L_n8 (n : Byte)
  /-- `CPL` (R242). -/
  | cpl
  /-- `JR NC,e8` (R304). -/
  | jr_NC_e8 (e : Byte)
  /-- `LD SP,n16` (R202). -/
  | ld_SP_n16 (n : Word)
  /-- `LD (HL-),A` (R182). -/
  | ld_mHLd_A
  /-- `INC SP` (R261). -/
  | inc_SP
  /-- `INC (HL)` (R238). -/
  | inc_mHL
  /-- `DEC (HL)` (R240). -/
  | dec_mHL
  /-- `LD (HL),n8` (R174). -/
  | ld_mHL_n8 (n : Byte)
  /-- `SCF` (R243). -/
  | scf
  /-- `JR C,e8` (R304). -/
  | jr_C_e8 (e : Byte)
  /-- `ADD HL,SP` (R260). -/
  | add_HL_SP
  /-- `LD A,(HL-)` (R180). -/
  | ld_A_mHLd
  /-- `DEC SP` (R262). -/
  | dec_SP
  /-- `INC A` (R237). -/
  | inc_A
  /-- `DEC A` (R239). -/
  | dec_A
  /-- `LD A,n8` (R173). -/
  | ld_A_n8 (n : Byte)
  /-- `CCF` (R244). -/
  | ccf
  /-- `LD B,B` (R170). -/
  | ld_B_B
  /-- `LD B,C` (R170). -/
  | ld_B_C
  /-- `LD B,D` (R170). -/
  | ld_B_D
  /-- `LD B,E` (R170). -/
  | ld_B_E
  /-- `LD B,H` (R170). -/
  | ld_B_H
  /-- `LD B,L` (R170). -/
  | ld_B_L
  /-- `LD B,(HL)` (R171). -/
  | ld_B_mHL
  /-- `LD B,A` (R170). -/
  | ld_B_A
  /-- `LD C,B` (R170). -/
  | ld_C_B
  /-- `LD C,C` (R170). -/
  | ld_C_C
  /-- `LD C,D` (R170). -/
  | ld_C_D
  /-- `LD C,E` (R170). -/
  | ld_C_E
  /-- `LD C,H` (R170). -/
  | ld_C_H
  /-- `LD C,L` (R170). -/
  | ld_C_L
  /-- `LD C,(HL)` (R171). -/
  | ld_C_mHL
  /-- `LD C,A` (R170). -/
  | ld_C_A
  /-- `LD D,B` (R170). -/
  | ld_D_B
  /-- `LD D,C` (R170). -/
  | ld_D_C
  /-- `LD D,D` (R170). -/
  | ld_D_D
  /-- `LD D,E` (R170). -/
  | ld_D_E
  /-- `LD D,H` (R170). -/
  | ld_D_H
  /-- `LD D,L` (R170). -/
  | ld_D_L
  /-- `LD D,(HL)` (R171). -/
  | ld_D_mHL
  /-- `LD D,A` (R170). -/
  | ld_D_A
  /-- `LD E,B` (R170). -/
  | ld_E_B
  /-- `LD E,C` (R170). -/
  | ld_E_C
  /-- `LD E,D` (R170). -/
  | ld_E_D
  /-- `LD E,E` (R170). -/
  | ld_E_E
  /-- `LD E,H` (R170). -/
  | ld_E_H
  /-- `LD E,L` (R170). -/
  | ld_E_L
  /-- `LD E,(HL)` (R171). -/
  | ld_E_mHL
  /-- `LD E,A` (R170). -/
  | ld_E_A
  /-- `LD H,B` (R170). -/
  | ld_H_B
  /-- `LD H,C` (R170). -/
  | ld_H_C
  /-- `LD H,D` (R170). -/
  | ld_H_D
  /-- `LD H,E` (R170). -/
  | ld_H_E
  /-- `LD H,H` (R170). -/
  | ld_H_H
  /-- `LD H,L` (R170). -/
  | ld_H_L
  /-- `LD H,(HL)` (R171). -/
  | ld_H_mHL
  /-- `LD H,A` (R170). -/
  | ld_H_A
  /-- `LD L,B` (R170). -/
  | ld_L_B
  /-- `LD L,C` (R170). -/
  | ld_L_C
  /-- `LD L,D` (R170). -/
  | ld_L_D
  /-- `LD L,E` (R170). -/
  | ld_L_E
  /-- `LD L,H` (R170). -/
  | ld_L_H
  /-- `LD L,L` (R170). -/
  | ld_L_L
  /-- `LD L,(HL)` (R171). -/
  | ld_L_mHL
  /-- `LD L,A` (R170). -/
  | ld_L_A
  /-- `LD (HL),B` (R172). -/
  | ld_mHL_B
  /-- `LD (HL),C` (R172). -/
  | ld_mHL_C
  /-- `LD (HL),D` (R172). -/
  | ld_mHL_D
  /-- `LD (HL),E` (R172). -/
  | ld_mHL_E
  /-- `LD (HL),H` (R172). -/
  | ld_mHL_H
  /-- `LD (HL),L` (R172). -/
  | ld_mHL_L
  /-- `HALT` (R321). -/
  | halt
  /-- `LD (HL),A` (R172). -/
  | ld_mHL_A
  /-- `LD A,B` (R170). -/
  | ld_A_B
  /-- `LD A,C` (R170). -/
  | ld_A_C
  /-- `LD A,D` (R170). -/
  | ld_A_D
  /-- `LD A,E` (R170). -/
  | ld_A_E
  /-- `LD A,H` (R170). -/
  | ld_A_H
  /-- `LD A,L` (R170). -/
  | ld_A_L
  /-- `LD A,(HL)` (R171). -/
  | ld_A_mHL
  /-- `LD A,A` (R170). -/
  | ld_A_A
  /-- `ADD A,B` (R221). -/
  | add_A_B
  /-- `ADD A,C` (R221). -/
  | add_A_C
  /-- `ADD A,D` (R221). -/
  | add_A_D
  /-- `ADD A,E` (R221). -/
  | add_A_E
  /-- `ADD A,H` (R221). -/
  | add_A_H
  /-- `ADD A,L` (R221). -/
  | add_A_L
  /-- `ADD A,(HL)` (R221). -/
  | add_A_mHL
  /-- `ADD A,A` (R221). -/
  | add_A_A
  /-- `ADC A,B` (R223). -/
  | adc_A_B
  /-- `ADC A,C` (R223). -/
  | adc_A_C
  /-- `ADC A,D` (R223). -/
  | adc_A_D
  /-- `ADC A,E` (R223). -/
  | adc_A_E
  /-- `ADC A,H` (R223). -/
  | adc_A_H
  /-- `ADC A,L` (R223). -/
  | adc_A_L
  /-- `ADC A,(HL)` (R223). -/
  | adc_A_mHL
  /-- `ADC A,A` (R223). -/
  | adc_A_A
  /-- `SUB B` (R225). -/
  | sub_B
  /-- `SUB C` (R225). -/
  | sub_C
  /-- `SUB D` (R225). -/
  | sub_D
  /-- `SUB E` (R225). -/
  | sub_E
  /-- `SUB H` (R225). -/
  | sub_H
  /-- `SUB L` (R225). -/
  | sub_L
  /-- `SUB (HL)` (R225). -/
  | sub_mHL
  /-- `SUB A` (R225). -/
  | sub_A
  /-- `SBC A,B` (R227). -/
  | sbc_A_B
  /-- `SBC A,C` (R227). -/
  | sbc_A_C
  /-- `SBC A,D` (R227). -/
  | sbc_A_D
  /-- `SBC A,E` (R227). -/
  | sbc_A_E
  /-- `SBC A,H` (R227). -/
  | sbc_A_H
  /-- `SBC A,L` (R227). -/
  | sbc_A_L
  /-- `SBC A,(HL)` (R227). -/
  | sbc_A_mHL
  /-- `SBC A,A` (R227). -/
  | sbc_A_A
  /-- `AND B` (R229). -/
  | and_B
  /-- `AND C` (R229). -/
  | and_C
  /-- `AND D` (R229). -/
  | and_D
  /-- `AND E` (R229). -/
  | and_E
  /-- `AND H` (R229). -/
  | and_H
  /-- `AND L` (R229). -/
  | and_L
  /-- `AND (HL)` (R229). -/
  | and_mHL
  /-- `AND A` (R229). -/
  | and_A
  /-- `XOR B` (R231). -/
  | xor_B
  /-- `XOR C` (R231). -/
  | xor_C
  /-- `XOR D` (R231). -/
  | xor_D
  /-- `XOR E` (R231). -/
  | xor_E
  /-- `XOR H` (R231). -/
  | xor_H
  /-- `XOR L` (R231). -/
  | xor_L
  /-- `XOR (HL)` (R231). -/
  | xor_mHL
  /-- `XOR A` (R231). -/
  | xor_A
  /-- `OR B` (R233). -/
  | or_B
  /-- `OR C` (R233). -/
  | or_C
  /-- `OR D` (R233). -/
  | or_D
  /-- `OR E` (R233). -/
  | or_E
  /-- `OR H` (R233). -/
  | or_H
  /-- `OR L` (R233). -/
  | or_L
  /-- `OR (HL)` (R233). -/
  | or_mHL
  /-- `OR A` (R233). -/
  | or_A
  /-- `CP B` (R235). -/
  | cp_B
  /-- `CP C` (R235). -/
  | cp_C
  /-- `CP D` (R235). -/
  | cp_D
  /-- `CP E` (R235). -/
  | cp_E
  /-- `CP H` (R235). -/
  | cp_H
  /-- `CP L` (R235). -/
  | cp_L
  /-- `CP (HL)` (R235). -/
  | cp_mHL
  /-- `CP A` (R235). -/
  | cp_A
  /-- `RET NZ` (R308). -/
  | ret_NZ
  /-- `POP BC` (R206). -/
  | pop_BC
  /-- `JP NZ,a16` (R301). -/
  | jp_NZ_a16 (a : Word)
  /-- `JP a16` (R300). -/
  | jp_a16 (a : Word)
  /-- `CALL NZ,a16` (R306). -/
  | call_NZ_a16 (a : Word)
  /-- `PUSH BC` (R205). -/
  | push_BC
  /-- `ADD A,n8` (R222). -/
  | add_A_n8 (n : Byte)
  /-- `RST 00H` (R310). -/
  | rst_00
  /-- `RET Z` (R308). -/
  | ret_Z
  /-- `RET` (R307). -/
  | ret
  /-- `JP Z,a16` (R301). -/
  | jp_Z_a16 (a : Word)
  /-- `PREFIX CB` (R325). -/
  | prefix_CB
  /-- `CALL Z,a16` (R306). -/
  | call_Z_a16 (a : Word)
  /-- `CALL a16` (R305). -/
  | call_a16 (a : Word)
  /-- `ADC A,n8` (R224). -/
  | adc_A_n8 (n : Byte)
  /-- `RST 08H` (R310). -/
  | rst_08
  /-- `RET NC` (R308). -/
  | ret_NC
  /-- `POP DE` (R206). -/
  | pop_DE
  /-- `JP NC,a16` (R301). -/
  | jp_NC_a16 (a : Word)
  /-- `CALL NC,a16` (R306). -/
  | call_NC_a16 (a : Word)
  /-- `PUSH DE` (R205). -/
  | push_DE
  /-- `SUB n8` (R226). -/
  | sub_n8 (n : Byte)
  /-- `RST 10H` (R310). -/
  | rst_10
  /-- `RET C` (R308). -/
  | ret_C
  /-- `RETI` (R309). -/
  | reti
  /-- `JP C,a16` (R301). -/
  | jp_C_a16 (a : Word)
  /-- `CALL C,a16` (R306). -/
  | call_C_a16 (a : Word)
  /-- `SBC A,n8` (R228). -/
  | sbc_A_n8 (n : Byte)
  /-- `RST 18H` (R310). -/
  | rst_18
  /-- `LDH (a8),A` (R186). -/
  | ldh_ma8_A (a : Byte)
  /-- `POP HL` (R206). -/
  | pop_HL
  /-- `LDH (C),A` (R188). -/
  | ldh_mC_A
  /-- `PUSH HL` (R205). -/
  | push_HL
  /-- `AND n8` (R230). -/
  | and_n8 (n : Byte)
  /-- `RST 20H` (R310). -/
  | rst_20
  /-- `ADD SP,e8` (R263). -/
  | add_SP_e8 (e : Byte)
  /-- `JP HL` (R302). -/
  | jp_HL
  /-- `LD (a16),A` (R184). -/
  | ld_ma16_A (a : Word)
  /-- `XOR n8` (R232). -/
  | xor_n8 (n : Byte)
  /-- `RST 28H` (R310). -/
  | rst_28
  /-- `LDH A,(a8)` (R185). -/
  | ldh_A_ma8 (a : Byte)
  /-- `POP AF` (R206). -/
  | pop_AF
  /-- `LDH A,(C)` (R187). -/
  | ldh_A_mC
  /-- `DI` (R323). -/
  | di
  /-- `PUSH AF` (R205). -/
  | push_AF
  /-- `OR n8` (R234). -/
  | or_n8 (n : Byte)
  /-- `RST 30H` (R310). -/
  | rst_30
  /-- `LD HL,SP+e8` (R207). -/
  | ld_HL_SPe8 (e : Byte)
  /-- `LD SP,HL` (R204). -/
  | ld_SP_HL
  /-- `LD A,(a16)` (R183). -/
  | ld_A_ma16 (a : Word)
  /-- `EI` (R324). -/
  | ei
  /-- `CP n8` (R236). -/
  | cp_n8 (n : Byte)
  /-- `RST 38H` (R310). -/
  | rst_38
  /-- `RLC B` (R275). -/
  | rlc_B
  /-- `RLC C` (R275). -/
  | rlc_C
  /-- `RLC D` (R275). -/
  | rlc_D
  /-- `RLC E` (R275). -/
  | rlc_E
  /-- `RLC H` (R275). -/
  | rlc_H
  /-- `RLC L` (R275). -/
  | rlc_L
  /-- `RLC (HL)` (R275). -/
  | rlc_mHL
  /-- `RLC A` (R275). -/
  | rlc_A
  /-- `RRC B` (R276). -/
  | rrc_B
  /-- `RRC C` (R276). -/
  | rrc_C
  /-- `RRC D` (R276). -/
  | rrc_D
  /-- `RRC E` (R276). -/
  | rrc_E
  /-- `RRC H` (R276). -/
  | rrc_H
  /-- `RRC L` (R276). -/
  | rrc_L
  /-- `RRC (HL)` (R276). -/
  | rrc_mHL
  /-- `RRC A` (R276). -/
  | rrc_A
  /-- `RL B` (R277). -/
  | rl_B
  /-- `RL C` (R277). -/
  | rl_C
  /-- `RL D` (R277). -/
  | rl_D
  /-- `RL E` (R277). -/
  | rl_E
  /-- `RL H` (R277). -/
  | rl_H
  /-- `RL L` (R277). -/
  | rl_L
  /-- `RL (HL)` (R277). -/
  | rl_mHL
  /-- `RL A` (R277). -/
  | rl_A
  /-- `RR B` (R278). -/
  | rr_B
  /-- `RR C` (R278). -/
  | rr_C
  /-- `RR D` (R278). -/
  | rr_D
  /-- `RR E` (R278). -/
  | rr_E
  /-- `RR H` (R278). -/
  | rr_H
  /-- `RR L` (R278). -/
  | rr_L
  /-- `RR (HL)` (R278). -/
  | rr_mHL
  /-- `RR A` (R278). -/
  | rr_A
  /-- `SLA B` (R279). -/
  | sla_B
  /-- `SLA C` (R279). -/
  | sla_C
  /-- `SLA D` (R279). -/
  | sla_D
  /-- `SLA E` (R279). -/
  | sla_E
  /-- `SLA H` (R279). -/
  | sla_H
  /-- `SLA L` (R279). -/
  | sla_L
  /-- `SLA (HL)` (R279). -/
  | sla_mHL
  /-- `SLA A` (R279). -/
  | sla_A
  /-- `SRA B` (R280). -/
  | sra_B
  /-- `SRA C` (R280). -/
  | sra_C
  /-- `SRA D` (R280). -/
  | sra_D
  /-- `SRA E` (R280). -/
  | sra_E
  /-- `SRA H` (R280). -/
  | sra_H
  /-- `SRA L` (R280). -/
  | sra_L
  /-- `SRA (HL)` (R280). -/
  | sra_mHL
  /-- `SRA A` (R280). -/
  | sra_A
  /-- `SWAP B` (R281). -/
  | swap_B
  /-- `SWAP C` (R281). -/
  | swap_C
  /-- `SWAP D` (R281). -/
  | swap_D
  /-- `SWAP E` (R281). -/
  | swap_E
  /-- `SWAP H` (R281). -/
  | swap_H
  /-- `SWAP L` (R281). -/
  | swap_L
  /-- `SWAP (HL)` (R281). -/
  | swap_mHL
  /-- `SWAP A` (R281). -/
  | swap_A
  /-- `SRL B` (R282). -/
  | srl_B
  /-- `SRL C` (R282). -/
  | srl_C
  /-- `SRL D` (R282). -/
  | srl_D
  /-- `SRL E` (R282). -/
  | srl_E
  /-- `SRL H` (R282). -/
  | srl_H
  /-- `SRL L` (R282). -/
  | srl_L
  /-- `SRL (HL)` (R282). -/
  | srl_mHL
  /-- `SRL A` (R282). -/
  | srl_A
  /-- `BIT 0,B` (R283). -/
  | bit_0_B
  /-- `BIT 0,C` (R283). -/
  | bit_0_C
  /-- `BIT 0,D` (R283). -/
  | bit_0_D
  /-- `BIT 0,E` (R283). -/
  | bit_0_E
  /-- `BIT 0,H` (R283). -/
  | bit_0_H
  /-- `BIT 0,L` (R283). -/
  | bit_0_L
  /-- `BIT 0,(HL)` (R283). -/
  | bit_0_mHL
  /-- `BIT 0,A` (R283). -/
  | bit_0_A
  /-- `BIT 1,B` (R283). -/
  | bit_1_B
  /-- `BIT 1,C` (R283). -/
  | bit_1_C
  /-- `BIT 1,D` (R283). -/
  | bit_1_D
  /-- `BIT 1,E` (R283). -/
  | bit_1_E
  /-- `BIT 1,H` (R283). -/
  | bit_1_H
  /-- `BIT 1,L` (R283). -/
  | bit_1_L
  /-- `BIT 1,(HL)` (R283). -/
  | bit_1_mHL
  /-- `BIT 1,A` (R283). -/
  | bit_1_A
  /-- `BIT 2,B` (R283). -/
  | bit_2_B
  /-- `BIT 2,C` (R283). -/
  | bit_2_C
  /-- `BIT 2,D` (R283). -/
  | bit_2_D
  /-- `BIT 2,E` (R283). -/
  | bit_2_E
  /-- `BIT 2,H` (R283). -/
  | bit_2_H
  /-- `BIT 2,L` (R283). -/
  | bit_2_L
  /-- `BIT 2,(HL)` (R283). -/
  | bit_2_mHL
  /-- `BIT 2,A` (R283). -/
  | bit_2_A
  /-- `BIT 3,B` (R283). -/
  | bit_3_B
  /-- `BIT 3,C` (R283). -/
  | bit_3_C
  /-- `BIT 3,D` (R283). -/
  | bit_3_D
  /-- `BIT 3,E` (R283). -/
  | bit_3_E
  /-- `BIT 3,H` (R283). -/
  | bit_3_H
  /-- `BIT 3,L` (R283). -/
  | bit_3_L
  /-- `BIT 3,(HL)` (R283). -/
  | bit_3_mHL
  /-- `BIT 3,A` (R283). -/
  | bit_3_A
  /-- `BIT 4,B` (R283). -/
  | bit_4_B
  /-- `BIT 4,C` (R283). -/
  | bit_4_C
  /-- `BIT 4,D` (R283). -/
  | bit_4_D
  /-- `BIT 4,E` (R283). -/
  | bit_4_E
  /-- `BIT 4,H` (R283). -/
  | bit_4_H
  /-- `BIT 4,L` (R283). -/
  | bit_4_L
  /-- `BIT 4,(HL)` (R283). -/
  | bit_4_mHL
  /-- `BIT 4,A` (R283). -/
  | bit_4_A
  /-- `BIT 5,B` (R283). -/
  | bit_5_B
  /-- `BIT 5,C` (R283). -/
  | bit_5_C
  /-- `BIT 5,D` (R283). -/
  | bit_5_D
  /-- `BIT 5,E` (R283). -/
  | bit_5_E
  /-- `BIT 5,H` (R283). -/
  | bit_5_H
  /-- `BIT 5,L` (R283). -/
  | bit_5_L
  /-- `BIT 5,(HL)` (R283). -/
  | bit_5_mHL
  /-- `BIT 5,A` (R283). -/
  | bit_5_A
  /-- `BIT 6,B` (R283). -/
  | bit_6_B
  /-- `BIT 6,C` (R283). -/
  | bit_6_C
  /-- `BIT 6,D` (R283). -/
  | bit_6_D
  /-- `BIT 6,E` (R283). -/
  | bit_6_E
  /-- `BIT 6,H` (R283). -/
  | bit_6_H
  /-- `BIT 6,L` (R283). -/
  | bit_6_L
  /-- `BIT 6,(HL)` (R283). -/
  | bit_6_mHL
  /-- `BIT 6,A` (R283). -/
  | bit_6_A
  /-- `BIT 7,B` (R283). -/
  | bit_7_B
  /-- `BIT 7,C` (R283). -/
  | bit_7_C
  /-- `BIT 7,D` (R283). -/
  | bit_7_D
  /-- `BIT 7,E` (R283). -/
  | bit_7_E
  /-- `BIT 7,H` (R283). -/
  | bit_7_H
  /-- `BIT 7,L` (R283). -/
  | bit_7_L
  /-- `BIT 7,(HL)` (R283). -/
  | bit_7_mHL
  /-- `BIT 7,A` (R283). -/
  | bit_7_A
  /-- `RES 0,B` (R284). -/
  | res_0_B
  /-- `RES 0,C` (R284). -/
  | res_0_C
  /-- `RES 0,D` (R284). -/
  | res_0_D
  /-- `RES 0,E` (R284). -/
  | res_0_E
  /-- `RES 0,H` (R284). -/
  | res_0_H
  /-- `RES 0,L` (R284). -/
  | res_0_L
  /-- `RES 0,(HL)` (R284). -/
  | res_0_mHL
  /-- `RES 0,A` (R284). -/
  | res_0_A
  /-- `RES 1,B` (R284). -/
  | res_1_B
  /-- `RES 1,C` (R284). -/
  | res_1_C
  /-- `RES 1,D` (R284). -/
  | res_1_D
  /-- `RES 1,E` (R284). -/
  | res_1_E
  /-- `RES 1,H` (R284). -/
  | res_1_H
  /-- `RES 1,L` (R284). -/
  | res_1_L
  /-- `RES 1,(HL)` (R284). -/
  | res_1_mHL
  /-- `RES 1,A` (R284). -/
  | res_1_A
  /-- `RES 2,B` (R284). -/
  | res_2_B
  /-- `RES 2,C` (R284). -/
  | res_2_C
  /-- `RES 2,D` (R284). -/
  | res_2_D
  /-- `RES 2,E` (R284). -/
  | res_2_E
  /-- `RES 2,H` (R284). -/
  | res_2_H
  /-- `RES 2,L` (R284). -/
  | res_2_L
  /-- `RES 2,(HL)` (R284). -/
  | res_2_mHL
  /-- `RES 2,A` (R284). -/
  | res_2_A
  /-- `RES 3,B` (R284). -/
  | res_3_B
  /-- `RES 3,C` (R284). -/
  | res_3_C
  /-- `RES 3,D` (R284). -/
  | res_3_D
  /-- `RES 3,E` (R284). -/
  | res_3_E
  /-- `RES 3,H` (R284). -/
  | res_3_H
  /-- `RES 3,L` (R284). -/
  | res_3_L
  /-- `RES 3,(HL)` (R284). -/
  | res_3_mHL
  /-- `RES 3,A` (R284). -/
  | res_3_A
  /-- `RES 4,B` (R284). -/
  | res_4_B
  /-- `RES 4,C` (R284). -/
  | res_4_C
  /-- `RES 4,D` (R284). -/
  | res_4_D
  /-- `RES 4,E` (R284). -/
  | res_4_E
  /-- `RES 4,H` (R284). -/
  | res_4_H
  /-- `RES 4,L` (R284). -/
  | res_4_L
  /-- `RES 4,(HL)` (R284). -/
  | res_4_mHL
  /-- `RES 4,A` (R284). -/
  | res_4_A
  /-- `RES 5,B` (R284). -/
  | res_5_B
  /-- `RES 5,C` (R284). -/
  | res_5_C
  /-- `RES 5,D` (R284). -/
  | res_5_D
  /-- `RES 5,E` (R284). -/
  | res_5_E
  /-- `RES 5,H` (R284). -/
  | res_5_H
  /-- `RES 5,L` (R284). -/
  | res_5_L
  /-- `RES 5,(HL)` (R284). -/
  | res_5_mHL
  /-- `RES 5,A` (R284). -/
  | res_5_A
  /-- `RES 6,B` (R284). -/
  | res_6_B
  /-- `RES 6,C` (R284). -/
  | res_6_C
  /-- `RES 6,D` (R284). -/
  | res_6_D
  /-- `RES 6,E` (R284). -/
  | res_6_E
  /-- `RES 6,H` (R284). -/
  | res_6_H
  /-- `RES 6,L` (R284). -/
  | res_6_L
  /-- `RES 6,(HL)` (R284). -/
  | res_6_mHL
  /-- `RES 6,A` (R284). -/
  | res_6_A
  /-- `RES 7,B` (R284). -/
  | res_7_B
  /-- `RES 7,C` (R284). -/
  | res_7_C
  /-- `RES 7,D` (R284). -/
  | res_7_D
  /-- `RES 7,E` (R284). -/
  | res_7_E
  /-- `RES 7,H` (R284). -/
  | res_7_H
  /-- `RES 7,L` (R284). -/
  | res_7_L
  /-- `RES 7,(HL)` (R284). -/
  | res_7_mHL
  /-- `RES 7,A` (R284). -/
  | res_7_A
  /-- `SET 0,B` (R285). -/
  | set_0_B
  /-- `SET 0,C` (R285). -/
  | set_0_C
  /-- `SET 0,D` (R285). -/
  | set_0_D
  /-- `SET 0,E` (R285). -/
  | set_0_E
  /-- `SET 0,H` (R285). -/
  | set_0_H
  /-- `SET 0,L` (R285). -/
  | set_0_L
  /-- `SET 0,(HL)` (R285). -/
  | set_0_mHL
  /-- `SET 0,A` (R285). -/
  | set_0_A
  /-- `SET 1,B` (R285). -/
  | set_1_B
  /-- `SET 1,C` (R285). -/
  | set_1_C
  /-- `SET 1,D` (R285). -/
  | set_1_D
  /-- `SET 1,E` (R285). -/
  | set_1_E
  /-- `SET 1,H` (R285). -/
  | set_1_H
  /-- `SET 1,L` (R285). -/
  | set_1_L
  /-- `SET 1,(HL)` (R285). -/
  | set_1_mHL
  /-- `SET 1,A` (R285). -/
  | set_1_A
  /-- `SET 2,B` (R285). -/
  | set_2_B
  /-- `SET 2,C` (R285). -/
  | set_2_C
  /-- `SET 2,D` (R285). -/
  | set_2_D
  /-- `SET 2,E` (R285). -/
  | set_2_E
  /-- `SET 2,H` (R285). -/
  | set_2_H
  /-- `SET 2,L` (R285). -/
  | set_2_L
  /-- `SET 2,(HL)` (R285). -/
  | set_2_mHL
  /-- `SET 2,A` (R285). -/
  | set_2_A
  /-- `SET 3,B` (R285). -/
  | set_3_B
  /-- `SET 3,C` (R285). -/
  | set_3_C
  /-- `SET 3,D` (R285). -/
  | set_3_D
  /-- `SET 3,E` (R285). -/
  | set_3_E
  /-- `SET 3,H` (R285). -/
  | set_3_H
  /-- `SET 3,L` (R285). -/
  | set_3_L
  /-- `SET 3,(HL)` (R285). -/
  | set_3_mHL
  /-- `SET 3,A` (R285). -/
  | set_3_A
  /-- `SET 4,B` (R285). -/
  | set_4_B
  /-- `SET 4,C` (R285). -/
  | set_4_C
  /-- `SET 4,D` (R285). -/
  | set_4_D
  /-- `SET 4,E` (R285). -/
  | set_4_E
  /-- `SET 4,H` (R285). -/
  | set_4_H
  /-- `SET 4,L` (R285). -/
  | set_4_L
  /-- `SET 4,(HL)` (R285). -/
  | set_4_mHL
  /-- `SET 4,A` (R285). -/
  | set_4_A
  /-- `SET 5,B` (R285). -/
  | set_5_B
  /-- `SET 5,C` (R285). -/
  | set_5_C
  /-- `SET 5,D` (R285). -/
  | set_5_D
  /-- `SET 5,E` (R285). -/
  | set_5_E
  /-- `SET 5,H` (R285). -/
  | set_5_H
  /-- `SET 5,L` (R285). -/
  | set_5_L
  /-- `SET 5,(HL)` (R285). -/
  | set_5_mHL
  /-- `SET 5,A` (R285). -/
  | set_5_A
  /-- `SET 6,B` (R285). -/
  | set_6_B
  /-- `SET 6,C` (R285). -/
  | set_6_C
  /-- `SET 6,D` (R285). -/
  | set_6_D
  /-- `SET 6,E` (R285). -/
  | set_6_E
  /-- `SET 6,H` (R285). -/
  | set_6_H
  /-- `SET 6,L` (R285). -/
  | set_6_L
  /-- `SET 6,(HL)` (R285). -/
  | set_6_mHL
  /-- `SET 6,A` (R285). -/
  | set_6_A
  /-- `SET 7,B` (R285). -/
  | set_7_B
  /-- `SET 7,C` (R285). -/
  | set_7_C
  /-- `SET 7,D` (R285). -/
  | set_7_D
  /-- `SET 7,E` (R285). -/
  | set_7_E
  /-- `SET 7,H` (R285). -/
  | set_7_H
  /-- `SET 7,L` (R285). -/
  | set_7_L
  /-- `SET 7,(HL)` (R285). -/
  | set_7_mHL
  /-- `SET 7,A` (R285). -/
  | set_7_A
  /-- `illegal byte 0xD3` (R327). -/
  | illegal_D3
  /-- `illegal byte 0xDB` (R327). -/
  | illegal_DB
  /-- `illegal byte 0xDD` (R327). -/
  | illegal_DD
  /-- `illegal byte 0xE3` (R327). -/
  | illegal_E3
  /-- `illegal byte 0xE4` (R327). -/
  | illegal_E4
  /-- `illegal byte 0xEB` (R327). -/
  | illegal_EB
  /-- `illegal byte 0xEC` (R327). -/
  | illegal_EC
  /-- `illegal byte 0xED` (R327). -/
  | illegal_ED
  /-- `illegal byte 0xF4` (R327). -/
  | illegal_F4
  /-- `illegal byte 0xFC` (R327). -/
  | illegal_FC
  /-- `illegal byte 0xFD` (R327). -/
  | illegal_FD
  deriving DecidableEq, Repr

end Sys2Proof
end

