-- ==== Sys2Proof/WellFormed.lean ====
section
/-! DEFINITION. Well-formed instructions. Every operand value of every constructor can be encoded
(R140-R149), so one check remains: an instruction is complete. `prefix_CB` is the byte 0xCB alone, which
the decoder always reads together with its second byte (R157, R325). -/

namespace Sys2Proof

/-- The instruction is a whole one: not the bare prefix byte (R325). -/
def Instr.isComplete : Instr → Bool
  | .prefix_CB => false
  | _ => true

/-- The instruction can stand in memory as it is: its bytes decode back to it. -/
def Instr.wellFormed (i : Instr) : Bool := i.isComplete

end Sys2Proof
end

