-- ==== Sys2Proof/Decode.lean ====
section
/-! DEFINITION. The decoder, total on bytes, and after it the encoder (30_encoding.md R140-R157), with
the byte-order helpers both use (R120). -/

namespace Sys2Proof

/-- The low byte of a 16-bit value. -/
def loByte (w : Word) : Byte := w.setWidth 8

/-- The high byte of a 16-bit value. -/
def hiByte (w : Word) : Byte := (w >>> 8).setWidth 8

/-- `{hi, lo}` (R11). -/
def mkWord (hi lo : Byte) : Word := hi ++ lo

/-! ## Operand codes (R142-R149) -/

/-- The operand an `r8` code selects (R142). -/
def R8.ofCode : Nat → R8
  | 0 => .B
  | 1 => .C
  | 2 => .D
  | 3 => .E
  | 4 => .H
  | 5 => .L
  | 6 => .mHL
  | _ => .A

/-- The code of an `r8` operand (R142). -/
def R8.code : R8 → Nat
  | .B => 0
  | .C => 1
  | .D => 2
  | .E => 3
  | .H => 4
  | .L => 5
  | .mHL => 6
  | .A => 7

/-- The pair an `r16` code selects (R143). -/
def R16.ofCode : Nat → R16
  | 0 => .BC
  | 1 => .DE
  | 2 => .HL
  | _ => .SP

/-- The code of an `r16` operand (R143). -/
def R16.code : R16 → Nat
  | .BC => 0
  | .DE => 1
  | .HL => 2
  | .SP => 3

/-- The pair an `r16stk` code selects (R144). -/
def R16Stk.ofCode : Nat → R16Stk
  | 0 => .BC
  | 1 => .DE
  | 2 => .HL
  | _ => .AF

/-- The code of an `r16stk` operand (R144). -/
def R16Stk.code : R16Stk → Nat
  | .BC => 0
  | .DE => 1
  | .HL => 2
  | .AF => 3

/-- The condition a `cc` code selects (R145). -/
def Cond.ofCode : Nat → Cond
  | 0 => .NZ
  | 1 => .Z
  | 2 => .NC
  | _ => .C

/-- The code of a condition (R145). -/
def Cond.code : Cond → Nat
  | .NZ => 0
  | .Z => 1
  | .NC => 2
  | .C => 3

/-- The memory operand an `r16mem` code selects (R146). -/
def R16Mem.ofCode : Nat → R16Mem
  | 0 => .BC
  | 1 => .DE
  | 2 => .HLi
  | _ => .HLd

/-- The code of an `r16mem` operand (R146). -/
def R16Mem.code : R16Mem → Nat
  | .BC => 0
  | .DE => 1
  | .HLi => 2
  | .HLd => 3

/-- The operation an `alu` code selects (R148). -/
def AluOp.ofCode : Nat → AluOp
  | 0 => .add
  | 1 => .adc
  | 2 => .sub
  | 3 => .sbc
  | 4 => .and
  | 5 => .xor
  | 6 => .or
  | _ => .cp

/-- The code of an `alu` operation (R148). -/
def AluOp.code : AluOp → Nat
  | .add => 0
  | .adc => 1
  | .sub => 2
  | .sbc => 3
  | .and => 4
  | .xor => 5
  | .or => 6
  | .cp => 7

/-- The operation a `rot` code selects (R149). -/
def RotOp.ofCode : Nat → RotOp
  | 0 => .rlc
  | 1 => .rrc
  | 2 => .rl
  | 3 => .rr
  | 4 => .sla
  | 5 => .sra
  | 6 => .swap
  | _ => .srl

/-- The code of a `rot` operation (R149). -/
def RotOp.code : RotOp → Nat
  | .rlc => 0
  | .rrc => 1
  | .rl => 2
  | .rr => 3
  | .sla => 4
  | .sra => 5
  | .swap => 6
  | .srl => 7

/-- A three-bit field as a number (R147). -/
def U3.ofCode : Nat → U3
  | 0 => .n0
  | 1 => .n1
  | 2 => .n2
  | 3 => .n3
  | 4 => .n4
  | 5 => .n5
  | 6 => .n6
  | _ => .n7

/-- The value of a three-bit field (R147). -/
def U3.code : U3 → Nat
  | .n0 => 0
  | .n1 => 1
  | .n2 => 2
  | .n3 => 3
  | .n4 => 4
  | .n5 => 5
  | .n6 => 6
  | .n7 => 7

/-! ## The instruction that an opcode field and its operands select -/

/-- `LD r16,n16` (R202). -/
def Instr.ldR16 : R16 → Word → Instr
  | .BC, n => .ld_BC_n16 n
  | .DE, n => .ld_DE_n16 n
  | .HL, n => .ld_HL_n16 n
  | .SP, n => .ld_SP_n16 n

/-- `ADD HL,r16` (R260). -/
def Instr.addHL : R16 → Instr
  | .BC => .add_HL_BC
  | .DE => .add_HL_DE
  | .HL => .add_HL_HL
  | .SP => .add_HL_SP

/-- `INC r16` (R261). -/
def Instr.incR16 : R16 → Instr
  | .BC => .inc_BC
  | .DE => .inc_DE
  | .HL => .inc_HL
  | .SP => .inc_SP

/-- `DEC r16` (R262). -/
def Instr.decR16 : R16 → Instr
  | .BC => .dec_BC
  | .DE => .dec_DE
  | .HL => .dec_HL
  | .SP => .dec_SP

/-- `LD (r16mem),A` (R177, R178, R181, R182). -/
def Instr.stMem : R16Mem → Instr
  | .BC => .ld_mBC_A
  | .DE => .ld_mDE_A
  | .HLi => .ld_mHLi_A
  | .HLd => .ld_mHLd_A

/-- `LD A,(r16mem)` (R175, R176, R179, R180). -/
def Instr.ldMem : R16Mem → Instr
  | .BC => .ld_A_mBC
  | .DE => .ld_A_mDE
  | .HLi => .ld_A_mHLi
  | .HLd => .ld_A_mHLd

/-- `INC r8` (R237, R238). -/
def Instr.incR8 : R8 → Instr
  | .B => .inc_B
  | .C => .inc_C
  | .D => .inc_D
  | .E => .inc_E
  | .H => .inc_H
  | .L => .inc_L
  | .mHL => .inc_mHL
  | .A => .inc_A

/-- `DEC r8` (R239, R240). -/
def Instr.decR8 : R8 → Instr
  | .B => .dec_B
  | .C => .dec_C
  | .D => .dec_D
  | .E => .dec_E
  | .H => .dec_H
  | .L => .dec_L
  | .mHL => .dec_mHL
  | .A => .dec_A

/-- `LD r8,n8` (R173, R174). -/
def Instr.ldN8 : R8 → Byte → Instr
  | .B, n => .ld_B_n8 n
  | .C, n => .ld_C_n8 n
  | .D, n => .ld_D_n8 n
  | .E, n => .ld_E_n8 n
  | .H, n => .ld_H_n8 n
  | .L, n => .ld_L_n8 n
  | .mHL, n => .ld_mHL_n8 n
  | .A, n => .ld_A_n8 n

/-- `JR cc,e8` (R304). -/
def Instr.jrCC : Cond → Byte → Instr
  | .NZ, n => .jr_NZ_e8 n
  | .Z, n => .jr_Z_e8 n
  | .NC, n => .jr_NC_e8 n
  | .C, n => .jr_C_e8 n

/-- `LD r8,r8'` (R170-R172): block x = 1, where the pair `(HL),(HL)` is HALT (R151). -/
def Instr.ldR8 : R8 → R8 → Instr
  | .B, .B => .ld_B_B
  | .B, .C => .ld_B_C
  | .B, .D => .ld_B_D
  | .B, .E => .ld_B_E
  | .B, .H => .ld_B_H
  | .B, .L => .ld_B_L
  | .B, .mHL => .ld_B_mHL
  | .B, .A => .ld_B_A
  | .C, .B => .ld_C_B
  | .C, .C => .ld_C_C
  | .C, .D => .ld_C_D
  | .C, .E => .ld_C_E
  | .C, .H => .ld_C_H
  | .C, .L => .ld_C_L
  | .C, .mHL => .ld_C_mHL
  | .C, .A => .ld_C_A
  | .D, .B => .ld_D_B
  | .D, .C => .ld_D_C
  | .D, .D => .ld_D_D
  | .D, .E => .ld_D_E
  | .D, .H => .ld_D_H
  | .D, .L => .ld_D_L
  | .D, .mHL => .ld_D_mHL
  | .D, .A => .ld_D_A
  | .E, .B => .ld_E_B
  | .E, .C => .ld_E_C
  | .E, .D => .ld_E_D
  | .E, .E => .ld_E_E
  | .E, .H => .ld_E_H
  | .E, .L => .ld_E_L
  | .E, .mHL => .ld_E_mHL
  | .E, .A => .ld_E_A
  | .H, .B => .ld_H_B
  | .H, .C => .ld_H_C
  | .H, .D => .ld_H_D
  | .H, .E => .ld_H_E
  | .H, .H => .ld_H_H
  | .H, .L => .ld_H_L
  | .H, .mHL => .ld_H_mHL
  | .H, .A => .ld_H_A
  | .L, .B => .ld_L_B
  | .L, .C => .ld_L_C
  | .L, .D => .ld_L_D
  | .L, .E => .ld_L_E
  | .L, .H => .ld_L_H
  | .L, .L => .ld_L_L
  | .L, .mHL => .ld_L_mHL
  | .L, .A => .ld_L_A
  | .mHL, .B => .ld_mHL_B
  | .mHL, .C => .ld_mHL_C
  | .mHL, .D => .ld_mHL_D
  | .mHL, .E => .ld_mHL_E
  | .mHL, .H => .ld_mHL_H
  | .mHL, .L => .ld_mHL_L
  | .mHL, .mHL => .halt
  | .mHL, .A => .ld_mHL_A
  | .A, .B => .ld_A_B
  | .A, .C => .ld_A_C
  | .A, .D => .ld_A_D
  | .A, .E => .ld_A_E
  | .A, .H => .ld_A_H
  | .A, .L => .ld_A_L
  | .A, .mHL => .ld_A_mHL
  | .A, .A => .ld_A_A

/-- `alu A,r8` (R221-R235): block x = 2 (R152). -/
def Instr.aluR8 : AluOp → R8 → Instr
  | .add, .B => .add_A_B
  | .add, .C => .add_A_C
  | .add, .D => .add_A_D
  | .add, .E => .add_A_E
  | .add, .H => .add_A_H
  | .add, .L => .add_A_L
  | .add, .mHL => .add_A_mHL
  | .add, .A => .add_A_A
  | .adc, .B => .adc_A_B
  | .adc, .C => .adc_A_C
  | .adc, .D => .adc_A_D
  | .adc, .E => .adc_A_E
  | .adc, .H => .adc_A_H
  | .adc, .L => .adc_A_L
  | .adc, .mHL => .adc_A_mHL
  | .adc, .A => .adc_A_A
  | .sub, .B => .sub_B
  | .sub, .C => .sub_C
  | .sub, .D => .sub_D
  | .sub, .E => .sub_E
  | .sub, .H => .sub_H
  | .sub, .L => .sub_L
  | .sub, .mHL => .sub_mHL
  | .sub, .A => .sub_A
  | .sbc, .B => .sbc_A_B
  | .sbc, .C => .sbc_A_C
  | .sbc, .D => .sbc_A_D
  | .sbc, .E => .sbc_A_E
  | .sbc, .H => .sbc_A_H
  | .sbc, .L => .sbc_A_L
  | .sbc, .mHL => .sbc_A_mHL
  | .sbc, .A => .sbc_A_A
  | .and, .B => .and_B
  | .and, .C => .and_C
  | .and, .D => .and_D
  | .and, .E => .and_E
  | .and, .H => .and_H
  | .and, .L => .and_L
  | .and, .mHL => .and_mHL
  | .and, .A => .and_A
  | .xor, .B => .xor_B
  | .xor, .C => .xor_C
  | .xor, .D => .xor_D
  | .xor, .E => .xor_E
  | .xor, .H => .xor_H
  | .xor, .L => .xor_L
  | .xor, .mHL => .xor_mHL
  | .xor, .A => .xor_A
  | .or, .B => .or_B
  | .or, .C => .or_C
  | .or, .D => .or_D
  | .or, .E => .or_E
  | .or, .H => .or_H
  | .or, .L => .or_L
  | .or, .mHL => .or_mHL
  | .or, .A => .or_A
  | .cp, .B => .cp_B
  | .cp, .C => .cp_C
  | .cp, .D => .cp_D
  | .cp, .E => .cp_E
  | .cp, .H => .cp_H
  | .cp, .L => .cp_L
  | .cp, .mHL => .cp_mHL
  | .cp, .A => .cp_A

/-- `alu A,n8` (R222-R236). -/
def Instr.aluN8 : AluOp → Byte → Instr
  | .add, n => .add_A_n8 n
  | .adc, n => .adc_A_n8 n
  | .sub, n => .sub_n8 n
  | .sbc, n => .sbc_A_n8 n
  | .and, n => .and_n8 n
  | .xor, n => .xor_n8 n
  | .or, n => .or_n8 n
  | .cp, n => .cp_n8 n

/-- `RET cc` (R308). -/
def Instr.retCC : Cond → Instr
  | .NZ => .ret_NZ
  | .Z => .ret_Z
  | .NC => .ret_NC
  | .C => .ret_C

/-- `JP cc,a16` (R301). -/
def Instr.jpCC : Cond → Word → Instr
  | .NZ, n => .jp_NZ_a16 n
  | .Z, n => .jp_Z_a16 n
  | .NC, n => .jp_NC_a16 n
  | .C, n => .jp_C_a16 n

/-- `CALL cc,a16` (R306). -/
def Instr.callCC : Cond → Word → Instr
  | .NZ, n => .call_NZ_a16 n
  | .Z, n => .call_Z_a16 n
  | .NC, n => .call_NC_a16 n
  | .C, n => .call_C_a16 n

/-- `POP r16stk` (R206). -/
def Instr.pop : R16Stk → Instr
  | .BC => .pop_BC
  | .DE => .pop_DE
  | .HL => .pop_HL
  | .AF => .pop_AF

/-- `PUSH r16stk` (R205). -/
def Instr.push : R16Stk → Instr
  | .BC => .push_BC
  | .DE => .push_DE
  | .HL => .push_HL
  | .AF => .push_AF

/-- `RST t` with `t = 8 * y` (R310). -/
def Instr.rst : U3 → Instr
  | .n0 => .rst_00
  | .n1 => .rst_08
  | .n2 => .rst_10
  | .n3 => .rst_18
  | .n4 => .rst_20
  | .n5 => .rst_28
  | .n6 => .rst_30
  | .n7 => .rst_38

/-- The prefixed rotates and shifts (R274-R282): CB block x = 0 (R154). -/
def Instr.rotR8 : RotOp → R8 → Instr
  | .rlc, .B => .rlc_B
  | .rlc, .C => .rlc_C
  | .rlc, .D => .rlc_D
  | .rlc, .E => .rlc_E
  | .rlc, .H => .rlc_H
  | .rlc, .L => .rlc_L
  | .rlc, .mHL => .rlc_mHL
  | .rlc, .A => .rlc_A
  | .rrc, .B => .rrc_B
  | .rrc, .C => .rrc_C
  | .rrc, .D => .rrc_D
  | .rrc, .E => .rrc_E
  | .rrc, .H => .rrc_H
  | .rrc, .L => .rrc_L
  | .rrc, .mHL => .rrc_mHL
  | .rrc, .A => .rrc_A
  | .rl, .B => .rl_B
  | .rl, .C => .rl_C
  | .rl, .D => .rl_D
  | .rl, .E => .rl_E
  | .rl, .H => .rl_H
  | .rl, .L => .rl_L
  | .rl, .mHL => .rl_mHL
  | .rl, .A => .rl_A
  | .rr, .B => .rr_B
  | .rr, .C => .rr_C
  | .rr, .D => .rr_D
  | .rr, .E => .rr_E
  | .rr, .H => .rr_H
  | .rr, .L => .rr_L
  | .rr, .mHL => .rr_mHL
  | .rr, .A => .rr_A
  | .sla, .B => .sla_B
  | .sla, .C => .sla_C
  | .sla, .D => .sla_D
  | .sla, .E => .sla_E
  | .sla, .H => .sla_H
  | .sla, .L => .sla_L
  | .sla, .mHL => .sla_mHL
  | .sla, .A => .sla_A
  | .sra, .B => .sra_B
  | .sra, .C => .sra_C
  | .sra, .D => .sra_D
  | .sra, .E => .sra_E
  | .sra, .H => .sra_H
  | .sra, .L => .sra_L
  | .sra, .mHL => .sra_mHL
  | .sra, .A => .sra_A
  | .swap, .B => .swap_B
  | .swap, .C => .swap_C
  | .swap, .D => .swap_D
  | .swap, .E => .swap_E
  | .swap, .H => .swap_H
  | .swap, .L => .swap_L
  | .swap, .mHL => .swap_mHL
  | .swap, .A => .swap_A
  | .srl, .B => .srl_B
  | .srl, .C => .srl_C
  | .srl, .D => .srl_D
  | .srl, .E => .srl_E
  | .srl, .H => .srl_H
  | .srl, .L => .srl_L
  | .srl, .mHL => .srl_mHL
  | .srl, .A => .srl_A

/-- `BIT u3,r8` (R283). -/
def Instr.bitR8 : U3 → R8 → Instr
  | .n0, .B => .bit_0_B
  | .n0, .C => .bit_0_C
  | .n0, .D => .bit_0_D
  | .n0, .E => .bit_0_E
  | .n0, .H => .bit_0_H
  | .n0, .L => .bit_0_L
  | .n0, .mHL => .bit_0_mHL
  | .n0, .A => .bit_0_A
  | .n1, .B => .bit_1_B
  | .n1, .C => .bit_1_C
  | .n1, .D => .bit_1_D
  | .n1, .E => .bit_1_E
  | .n1, .H => .bit_1_H
  | .n1, .L => .bit_1_L
  | .n1, .mHL => .bit_1_mHL
  | .n1, .A => .bit_1_A
  | .n2, .B => .bit_2_B
  | .n2, .C => .bit_2_C
  | .n2, .D => .bit_2_D
  | .n2, .E => .bit_2_E
  | .n2, .H => .bit_2_H
  | .n2, .L => .bit_2_L
  | .n2, .mHL => .bit_2_mHL
  | .n2, .A => .bit_2_A
  | .n3, .B => .bit_3_B
  | .n3, .C => .bit_3_C
  | .n3, .D => .bit_3_D
  | .n3, .E => .bit_3_E
  | .n3, .H => .bit_3_H
  | .n3, .L => .bit_3_L
  | .n3, .mHL => .bit_3_mHL
  | .n3, .A => .bit_3_A
  | .n4, .B => .bit_4_B
  | .n4, .C => .bit_4_C
  | .n4, .D => .bit_4_D
  | .n4, .E => .bit_4_E
  | .n4, .H => .bit_4_H
  | .n4, .L => .bit_4_L
  | .n4, .mHL => .bit_4_mHL
  | .n4, .A => .bit_4_A
  | .n5, .B => .bit_5_B
  | .n5, .C => .bit_5_C
  | .n5, .D => .bit_5_D
  | .n5, .E => .bit_5_E
  | .n5, .H => .bit_5_H
  | .n5, .L => .bit_5_L
  | .n5, .mHL => .bit_5_mHL
  | .n5, .A => .bit_5_A
  | .n6, .B => .bit_6_B
  | .n6, .C => .bit_6_C
  | .n6, .D => .bit_6_D
  | .n6, .E => .bit_6_E
  | .n6, .H => .bit_6_H
  | .n6, .L => .bit_6_L
  | .n6, .mHL => .bit_6_mHL
  | .n6, .A => .bit_6_A
  | .n7, .B => .bit_7_B
  | .n7, .C => .bit_7_C
  | .n7, .D => .bit_7_D
  | .n7, .E => .bit_7_E
  | .n7, .H => .bit_7_H
  | .n7, .L => .bit_7_L
  | .n7, .mHL => .bit_7_mHL
  | .n7, .A => .bit_7_A

/-- `RES u3,r8` (R284). -/
def Instr.resR8 : U3 → R8 → Instr
  | .n0, .B => .res_0_B
  | .n0, .C => .res_0_C
  | .n0, .D => .res_0_D
  | .n0, .E => .res_0_E
  | .n0, .H => .res_0_H
  | .n0, .L => .res_0_L
  | .n0, .mHL => .res_0_mHL
  | .n0, .A => .res_0_A
  | .n1, .B => .res_1_B
  | .n1, .C => .res_1_C
  | .n1, .D => .res_1_D
  | .n1, .E => .res_1_E
  | .n1, .H => .res_1_H
  | .n1, .L => .res_1_L
  | .n1, .mHL => .res_1_mHL
  | .n1, .A => .res_1_A
  | .n2, .B => .res_2_B
  | .n2, .C => .res_2_C
  | .n2, .D => .res_2_D
  | .n2, .E => .res_2_E
  | .n2, .H => .res_2_H
  | .n2, .L => .res_2_L
  | .n2, .mHL => .res_2_mHL
  | .n2, .A => .res_2_A
  | .n3, .B => .res_3_B
  | .n3, .C => .res_3_C
  | .n3, .D => .res_3_D
  | .n3, .E => .res_3_E
  | .n3, .H => .res_3_H
  | .n3, .L => .res_3_L
  | .n3, .mHL => .res_3_mHL
  | .n3, .A => .res_3_A
  | .n4, .B => .res_4_B
  | .n4, .C => .res_4_C
  | .n4, .D => .res_4_D
  | .n4, .E => .res_4_E
  | .n4, .H => .res_4_H
  | .n4, .L => .res_4_L
  | .n4, .mHL => .res_4_mHL
  | .n4, .A => .res_4_A
  | .n5, .B => .res_5_B
  | .n5, .C => .res_5_C
  | .n5, .D => .res_5_D
  | .n5, .E => .res_5_E
  | .n5, .H => .res_5_H
  | .n5, .L => .res_5_L
  | .n5, .mHL => .res_5_mHL
  | .n5, .A => .res_5_A
  | .n6, .B => .res_6_B
  | .n6, .C => .res_6_C
  | .n6, .D => .res_6_D
  | .n6, .E => .res_6_E
  | .n6, .H => .res_6_H
  | .n6, .L => .res_6_L
  | .n6, .mHL => .res_6_mHL
  | .n6, .A => .res_6_A
  | .n7, .B => .res_7_B
  | .n7, .C => .res_7_C
  | .n7, .D => .res_7_D
  | .n7, .E => .res_7_E
  | .n7, .H => .res_7_H
  | .n7, .L => .res_7_L
  | .n7, .mHL => .res_7_mHL
  | .n7, .A => .res_7_A

/-- `SET u3,r8` (R285). -/
def Instr.setR8 : U3 → R8 → Instr
  | .n0, .B => .set_0_B
  | .n0, .C => .set_0_C
  | .n0, .D => .set_0_D
  | .n0, .E => .set_0_E
  | .n0, .H => .set_0_H
  | .n0, .L => .set_0_L
  | .n0, .mHL => .set_0_mHL
  | .n0, .A => .set_0_A
  | .n1, .B => .set_1_B
  | .n1, .C => .set_1_C
  | .n1, .D => .set_1_D
  | .n1, .E => .set_1_E
  | .n1, .H => .set_1_H
  | .n1, .L => .set_1_L
  | .n1, .mHL => .set_1_mHL
  | .n1, .A => .set_1_A
  | .n2, .B => .set_2_B
  | .n2, .C => .set_2_C
  | .n2, .D => .set_2_D
  | .n2, .E => .set_2_E
  | .n2, .H => .set_2_H
  | .n2, .L => .set_2_L
  | .n2, .mHL => .set_2_mHL
  | .n2, .A => .set_2_A
  | .n3, .B => .set_3_B
  | .n3, .C => .set_3_C
  | .n3, .D => .set_3_D
  | .n3, .E => .set_3_E
  | .n3, .H => .set_3_H
  | .n3, .L => .set_3_L
  | .n3, .mHL => .set_3_mHL
  | .n3, .A => .set_3_A
  | .n4, .B => .set_4_B
  | .n4, .C => .set_4_C
  | .n4, .D => .set_4_D
  | .n4, .E => .set_4_E
  | .n4, .H => .set_4_H
  | .n4, .L => .set_4_L
  | .n4, .mHL => .set_4_mHL
  | .n4, .A => .set_4_A
  | .n5, .B => .set_5_B
  | .n5, .C => .set_5_C
  | .n5, .D => .set_5_D
  | .n5, .E => .set_5_E
  | .n5, .H => .set_5_H
  | .n5, .L => .set_5_L
  | .n5, .mHL => .set_5_mHL
  | .n5, .A => .set_5_A
  | .n6, .B => .set_6_B
  | .n6, .C => .set_6_C
  | .n6, .D => .set_6_D
  | .n6, .E => .set_6_E
  | .n6, .H => .set_6_H
  | .n6, .L => .set_6_L
  | .n6, .mHL => .set_6_mHL
  | .n6, .A => .set_6_A
  | .n7, .B => .set_7_B
  | .n7, .C => .set_7_C
  | .n7, .D => .set_7_D
  | .n7, .E => .set_7_E
  | .n7, .H => .set_7_H
  | .n7, .L => .set_7_L
  | .n7, .mHL => .set_7_mHL
  | .n7, .A => .set_7_A

/-! ## The opcode map (R141, R150-R155) -/

/-- Field `x = o[7:6]` (R141). -/
def fieldX (o : Byte) : Nat := o.toNat / 64

/-- Field `y = o[5:3]` (R141). -/
def fieldY (o : Byte) : Nat := o.toNat / 8 % 8

/-- Field `z = o[2:0]` (R141). -/
def fieldZ (o : Byte) : Nat := o.toNat % 8

/-- The byte with the fields x, y and z (R141). -/
def opcodeByte (x y z : Nat) : Byte := BitVec.ofNat 8 (64 * x + 8 * y + z)

/-- Field `p = y >> 1` (R141). -/
def fieldP (o : Byte) : Nat := fieldY o / 2

/-- Field `q = y & 1` (R141). -/
def fieldQ (o : Byte) : Nat := fieldY o % 2

/-- The CB-prefixed table on the second byte (R154). -/
def instrOfCB (o : Byte) : Instr :=
  match fieldX o with
  | 0 => .rotR8 (.ofCode (fieldY o)) (.ofCode (fieldZ o))
  | 1 => .bitR8 (.ofCode (fieldY o)) (.ofCode (fieldZ o))
  | 2 => .resR8 (.ofCode (fieldY o)) (.ofCode (fieldZ o))
  | _ => .setR8 (.ofCode (fieldY o)) (.ofCode (fieldZ o))

/-- Block x = 0 (R150): `o` is the opcode, `b1` and `b2` the bytes after it. -/
def instrOfBlock0 (o b1 b2 : Byte) : Instr :=
  match fieldZ o with
  | 0 =>
    match fieldY o with
    | 0 => .nop
    | 1 => .ld_ma16_SP (mkWord b2 b1)
    | 2 => .stop b1
    | 3 => .jr_e8 b1
    | y => .jrCC (.ofCode (y - 4)) b1
  | 1 =>
    if fieldQ o = 0 then .ldR16 (.ofCode (fieldP o)) (mkWord b2 b1) else .addHL (.ofCode (fieldP o))
  | 2 => if fieldQ o = 0 then .stMem (.ofCode (fieldP o)) else .ldMem (.ofCode (fieldP o))
  | 3 => if fieldQ o = 0 then .incR16 (.ofCode (fieldP o)) else .decR16 (.ofCode (fieldP o))
  | 4 => .incR8 (.ofCode (fieldY o))
  | 5 => .decR8 (.ofCode (fieldY o))
  | 6 => .ldN8 (.ofCode (fieldY o)) b1
  | _ =>
    match fieldY o with
    | 0 => .rlca
    | 1 => .rrca
    | 2 => .rla
    | 3 => .rra
    | 4 => .daa
    | 5 => .cpl
    | 6 => .scf
    | _ => .ccf

/-- Block x = 3 (R153, R155): `o` is the opcode, `b1` and `b2` the bytes after it. -/
def instrOfBlock3 (o b1 b2 : Byte) : Instr :=
  match fieldZ o with
  | 0 =>
    match fieldY o with
    | 4 => .ldh_ma8_A b1
    | 5 => .add_SP_e8 b1
    | 6 => .ldh_A_ma8 b1
    | 7 => .ld_HL_SPe8 b1
    | y => .retCC (.ofCode y)
  | 1 =>
    if fieldQ o = 0 then .pop (.ofCode (fieldP o))
    else
      match fieldP o with
      | 0 => .ret
      | 1 => .reti
      | 2 => .jp_HL
      | _ => .ld_SP_HL
  | 2 =>
    match fieldY o with
    | 4 => .ldh_mC_A
    | 5 => .ld_ma16_A (mkWord b2 b1)
    | 6 => .ldh_A_mC
    | 7 => .ld_A_ma16 (mkWord b2 b1)
    | y => .jpCC (.ofCode y) (mkWord b2 b1)
  | 3 =>
    match fieldY o with
    | 0 => .jp_a16 (mkWord b2 b1)
    | 1 => instrOfCB b1
    | 2 => .illegal_D3
    | 3 => .illegal_DB
    | 4 => .illegal_E3
    | 5 => .illegal_EB
    | 6 => .di
    | _ => .ei
  | 4 =>
    match fieldY o with
    | 4 => .illegal_E4
    | 5 => .illegal_EC
    | 6 => .illegal_F4
    | 7 => .illegal_FC
    | y => .callCC (.ofCode y) (mkWord b2 b1)
  | 5 =>
    if fieldQ o = 0 then .push (.ofCode (fieldP o))
    else
      match fieldP o with
      | 0 => .call_a16 (mkWord b2 b1)
      | 1 => .illegal_DD
      | 2 => .illegal_ED
      | _ => .illegal_FD
  | 6 => .aluN8 (.ofCode (fieldY o)) b1
  | _ => .rst (.ofCode (fieldY o))

/-- The instruction whose first byte is `o` and whose next two bytes, as far as it has them, are `b1`
and `b2` (R150-R155, R157). -/
def instrOf (o b1 b2 : Byte) : Instr :=
  match fieldX o with
  | 0 => instrOfBlock0 o b1 b2
  | 1 => .ldR8 (.ofCode (fieldY o)) (.ofCode (fieldZ o))
  | 2 => .aluR8 (.ofCode (fieldY o)) (.ofCode (fieldZ o))
  | _ => instrOfBlock3 o b1 b2

/-- The length the first byte fixes (R156). -/
def opLength (o : Byte) : Nat :=
  if o ∈ [0x01, 0x11, 0x21, 0x31, 0x08, 0xC3, 0xC2, 0xCA, 0xD2, 0xDA, 0xCD, 0xC4, 0xCC, 0xD4, 0xDC,
      0xEA, 0xFA] then 3
  else if (fieldX o = 0 ∧ fieldZ o = 6) ∨ o ∈ [0x18, 0x20, 0x28, 0x30, 0x38] ∨
      (fieldX o = 3 ∧ fieldZ o = 6) ∨ o ∈ [0xE0, 0xF0, 0xE8, 0xF8, 0x10, 0xCB] then 2
  else 1

/-- Why a list of bytes is not an instruction. -/
inductive DecodeError where
  /-- There is no byte at all. -/
  | noByte
  /-- The bytes end before the instruction that starts with `opcode` does. -/
  | truncated (opcode : Byte)
  deriving DecidableEq, Repr

/-- Read one instruction from the front of a list of bytes, with the bytes after it. A list that is the
prefix byte alone is the bare prefix (R325); no other incomplete list is an instruction. -/
def decode : List Byte → Except DecodeError (Instr × List Byte)
  | [] => .error .noByte
  | o :: rest =>
    if o = 0xCB ∧ rest = [] then .ok (.prefix_CB, [])
    else if rest.length + 1 < opLength o then .error (.truncated o)
    else .ok (instrOf o (rest.getD 0 0) (rest.getD 1 0), rest.drop (opLength o - 1))

/-! ## The encoder (R150-R154) -/

/-- The bytes of an instruction. -/
def encode : Instr → List Byte
  | .nop => [0x00]
  | .ld_BC_n16 n => [0x01, loByte n, hiByte n]
  | .ld_mBC_A => [0x02]
  | .inc_BC => [0x03]
  | .inc_B => [0x04]
  | .dec_B => [0x05]
  | .ld_B_n8 n => [0x06, n]
  | .rlca => [0x07]
  | .ld_ma16_SP a => [0x08, loByte a, hiByte a]
  | .add_HL_BC => [0x09]
  | .ld_A_mBC => [0x0A]
  | .dec_BC => [0x0B]
  | .inc_C => [0x0C]
  | .dec_C => [0x0D]
  | .ld_C_n8 n => [0x0E, n]
  | .rrca => [0x0F]
  | .stop i => [0x10, i]
  | .ld_DE_n16 n => [0x11, loByte n, hiByte n]
  | .ld_mDE_A => [0x12]
  | .inc_DE => [0x13]
  | .inc_D => [0x14]
  | .dec_D => [0x15]
  | .ld_D_n8 n => [0x16, n]
  | .rla => [0x17]
  | .jr_e8 e => [0x18, e]
  | .add_HL_DE => [0x19]
  | .ld_A_mDE => [0x1A]
  | .dec_DE => [0x1B]
  | .inc_E => [0x1C]
  | .dec_E => [0x1D]
  | .ld_E_n8 n => [0x1E, n]
  | .rra => [0x1F]
  | .jr_NZ_e8 e => [0x20, e]
  | .ld_HL_n16 n => [0x21, loByte n, hiByte n]
  | .ld_mHLi_A => [0x22]
  | .inc_HL => [0x23]
  | .inc_H => [0x24]
  | .dec_H => [0x25]
  | .ld_H_n8 n => [0x26, n]
  | .daa => [0x27]
  | .jr_Z_e8 e => [0x28, e]
  | .add_HL_HL => [0x29]
  | .ld_A_mHLi => [0x2A]
  | .dec_HL => [0x2B]
  | .inc_L => [0x2C]
  | .dec_L => [0x2D]
  | .ld_L_n8 n => [0x2E, n]
  | .cpl => [0x2F]
  | .jr_NC_e8 e => [0x30, e]
  | .ld_SP_n16 n => [0x31, loByte n, hiByte n]
  | .ld_mHLd_A => [0x32]
  | .inc_SP => [0x33]
  | .inc_mHL => [0x34]
  | .dec_mHL => [0x35]
  | .ld_mHL_n8 n => [0x36, n]
  | .scf => [0x37]
  | .jr_C_e8 e => [0x38, e]
  | .add_HL_SP => [0x39]
  | .ld_A_mHLd => [0x3A]
  | .dec_SP => [0x3B]
  | .inc_A => [0x3C]
  | .dec_A => [0x3D]
  | .ld_A_n8 n => [0x3E, n]
  | .ccf => [0x3F]
  | .ld_B_B => [0x40]
  | .ld_B_C => [0x41]
  | .ld_B_D => [0x42]
  | .ld_B_E => [0x43]
  | .ld_B_H => [0x44]
  | .ld_B_L => [0x45]
  | .ld_B_mHL => [0x46]
  | .ld_B_A => [0x47]
  | .ld_C_B => [0x48]
  | .ld_C_C => [0x49]
  | .ld_C_D => [0x4A]
  | .ld_C_E => [0x4B]
  | .ld_C_H => [0x4C]
  | .ld_C_L => [0x4D]
  | .ld_C_mHL => [0x4E]
  | .ld_C_A => [0x4F]
  | .ld_D_B => [0x50]
  | .ld_D_C => [0x51]
  | .ld_D_D => [0x52]
  | .ld_D_E => [0x53]
  | .ld_D_H => [0x54]
  | .ld_D_L => [0x55]
  | .ld_D_mHL => [0x56]
  | .ld_D_A => [0x57]
  | .ld_E_B => [0x58]
  | .ld_E_C => [0x59]
  | .ld_E_D => [0x5A]
  | .ld_E_E => [0x5B]
  | .ld_E_H => [0x5C]
  | .ld_E_L => [0x5D]
  | .ld_E_mHL => [0x5E]
  | .ld_E_A => [0x5F]
  | .ld_H_B => [0x60]
  | .ld_H_C => [0x61]
  | .ld_H_D => [0x62]
  | .ld_H_E => [0x63]
  | .ld_H_H => [0x64]
  | .ld_H_L => [0x65]
  | .ld_H_mHL => [0x66]
  | .ld_H_A => [0x67]
  | .ld_L_B => [0x68]
  | .ld_L_C => [0x69]
  | .ld_L_D => [0x6A]
  | .ld_L_E => [0x6B]
  | .ld_L_H => [0x6C]
  | .ld_L_L => [0x6D]
  | .ld_L_mHL => [0x6E]
  | .ld_L_A => [0x6F]
  | .ld_mHL_B => [0x70]
  | .ld_mHL_C => [0x71]
  | .ld_mHL_D => [0x72]
  | .ld_mHL_E => [0x73]
  | .ld_mHL_H => [0x74]
  | .ld_mHL_L => [0x75]
  | .halt => [0x76]
  | .ld_mHL_A => [0x77]
  | .ld_A_B => [0x78]
  | .ld_A_C => [0x79]
  | .ld_A_D => [0x7A]
  | .ld_A_E => [0x7B]
  | .ld_A_H => [0x7C]
  | .ld_A_L => [0x7D]
  | .ld_A_mHL => [0x7E]
  | .ld_A_A => [0x7F]
  | .add_A_B => [0x80]
  | .add_A_C => [0x81]
  | .add_A_D => [0x82]
  | .add_A_E => [0x83]
  | .add_A_H => [0x84]
  | .add_A_L => [0x85]
  | .add_A_mHL => [0x86]
  | .add_A_A => [0x87]
  | .adc_A_B => [0x88]
  | .adc_A_C => [0x89]
  | .adc_A_D => [0x8A]
  | .adc_A_E => [0x8B]
  | .adc_A_H => [0x8C]
  | .adc_A_L => [0x8D]
  | .adc_A_mHL => [0x8E]
  | .adc_A_A => [0x8F]
  | .sub_B => [0x90]
  | .sub_C => [0x91]
  | .sub_D => [0x92]
  | .sub_E => [0x93]
  | .sub_H => [0x94]
  | .sub_L => [0x95]
  | .sub_mHL => [0x96]
  | .sub_A => [0x97]
  | .sbc_A_B => [0x98]
  | .sbc_A_C => [0x99]
  | .sbc_A_D => [0x9A]
  | .sbc_A_E => [0x9B]
  | .sbc_A_H => [0x9C]
  | .sbc_A_L => [0x9D]
  | .sbc_A_mHL => [0x9E]
  | .sbc_A_A => [0x9F]
  | .and_B => [0xA0]
  | .and_C => [0xA1]
  | .and_D => [0xA2]
  | .and_E => [0xA3]
  | .and_H => [0xA4]
  | .and_L => [0xA5]
  | .and_mHL => [0xA6]
  | .and_A => [0xA7]
  | .xor_B => [0xA8]
  | .xor_C => [0xA9]
  | .xor_D => [0xAA]
  | .xor_E => [0xAB]
  | .xor_H => [0xAC]
  | .xor_L => [0xAD]
  | .xor_mHL => [0xAE]
  | .xor_A => [0xAF]
  | .or_B => [0xB0]
  | .or_C => [0xB1]
  | .or_D => [0xB2]
  | .or_E => [0xB3]
  | .or_H => [0xB4]
  | .or_L => [0xB5]
  | .or_mHL => [0xB6]
  | .or_A => [0xB7]
  | .cp_B => [0xB8]
  | .cp_C => [0xB9]
  | .cp_D => [0xBA]
  | .cp_E => [0xBB]
  | .cp_H => [0xBC]
  | .cp_L => [0xBD]
  | .cp_mHL => [0xBE]
  | .cp_A => [0xBF]
  | .ret_NZ => [0xC0]
  | .pop_BC => [0xC1]
  | .jp_NZ_a16 a => [0xC2, loByte a, hiByte a]
  | .jp_a16 a => [0xC3, loByte a, hiByte a]
  | .call_NZ_a16 a => [0xC4, loByte a, hiByte a]
  | .push_BC => [0xC5]
  | .add_A_n8 n => [0xC6, n]
  | .rst_00 => [0xC7]
  | .ret_Z => [0xC8]
  | .ret => [0xC9]
  | .jp_Z_a16 a => [0xCA, loByte a, hiByte a]
  | .prefix_CB => [0xCB]
  | .call_Z_a16 a => [0xCC, loByte a, hiByte a]
  | .call_a16 a => [0xCD, loByte a, hiByte a]
  | .adc_A_n8 n => [0xCE, n]
  | .rst_08 => [0xCF]
  | .ret_NC => [0xD0]
  | .pop_DE => [0xD1]
  | .jp_NC_a16 a => [0xD2, loByte a, hiByte a]
  | .illegal_D3 => [0xD3]
  | .call_NC_a16 a => [0xD4, loByte a, hiByte a]
  | .push_DE => [0xD5]
  | .sub_n8 n => [0xD6, n]
  | .rst_10 => [0xD7]
  | .ret_C => [0xD8]
  | .reti => [0xD9]
  | .jp_C_a16 a => [0xDA, loByte a, hiByte a]
  | .illegal_DB => [0xDB]
  | .call_C_a16 a => [0xDC, loByte a, hiByte a]
  | .illegal_DD => [0xDD]
  | .sbc_A_n8 n => [0xDE, n]
  | .rst_18 => [0xDF]
  | .ldh_ma8_A a => [0xE0, a]
  | .pop_HL => [0xE1]
  | .ldh_mC_A => [0xE2]
  | .illegal_E3 => [0xE3]
  | .illegal_E4 => [0xE4]
  | .push_HL => [0xE5]
  | .and_n8 n => [0xE6, n]
  | .rst_20 => [0xE7]
  | .add_SP_e8 e => [0xE8, e]
  | .jp_HL => [0xE9]
  | .ld_ma16_A a => [0xEA, loByte a, hiByte a]
  | .illegal_EB => [0xEB]
  | .illegal_EC => [0xEC]
  | .illegal_ED => [0xED]
  | .xor_n8 n => [0xEE, n]
  | .rst_28 => [0xEF]
  | .ldh_A_ma8 a => [0xF0, a]
  | .pop_AF => [0xF1]
  | .ldh_A_mC => [0xF2]
  | .di => [0xF3]
  | .illegal_F4 => [0xF4]
  | .push_AF => [0xF5]
  | .or_n8 n => [0xF6, n]
  | .rst_30 => [0xF7]
  | .ld_HL_SPe8 e => [0xF8, e]
  | .ld_SP_HL => [0xF9]
  | .ld_A_ma16 a => [0xFA, loByte a, hiByte a]
  | .ei => [0xFB]
  | .illegal_FC => [0xFC]
  | .illegal_FD => [0xFD]
  | .cp_n8 n => [0xFE, n]
  | .rst_38 => [0xFF]
  | .rlc_B => [0xCB, 0x00]
  | .rlc_C => [0xCB, 0x01]
  | .rlc_D => [0xCB, 0x02]
  | .rlc_E => [0xCB, 0x03]
  | .rlc_H => [0xCB, 0x04]
  | .rlc_L => [0xCB, 0x05]
  | .rlc_mHL => [0xCB, 0x06]
  | .rlc_A => [0xCB, 0x07]
  | .rrc_B => [0xCB, 0x08]
  | .rrc_C => [0xCB, 0x09]
  | .rrc_D => [0xCB, 0x0A]
  | .rrc_E => [0xCB, 0x0B]
  | .rrc_H => [0xCB, 0x0C]
  | .rrc_L => [0xCB, 0x0D]
  | .rrc_mHL => [0xCB, 0x0E]
  | .rrc_A => [0xCB, 0x0F]
  | .rl_B => [0xCB, 0x10]
  | .rl_C => [0xCB, 0x11]
  | .rl_D => [0xCB, 0x12]
  | .rl_E => [0xCB, 0x13]
  | .rl_H => [0xCB, 0x14]
  | .rl_L => [0xCB, 0x15]
  | .rl_mHL => [0xCB, 0x16]
  | .rl_A => [0xCB, 0x17]
  | .rr_B => [0xCB, 0x18]
  | .rr_C => [0xCB, 0x19]
  | .rr_D => [0xCB, 0x1A]
  | .rr_E => [0xCB, 0x1B]
  | .rr_H => [0xCB, 0x1C]
  | .rr_L => [0xCB, 0x1D]
  | .rr_mHL => [0xCB, 0x1E]
  | .rr_A => [0xCB, 0x1F]
  | .sla_B => [0xCB, 0x20]
  | .sla_C => [0xCB, 0x21]
  | .sla_D => [0xCB, 0x22]
  | .sla_E => [0xCB, 0x23]
  | .sla_H => [0xCB, 0x24]
  | .sla_L => [0xCB, 0x25]
  | .sla_mHL => [0xCB, 0x26]
  | .sla_A => [0xCB, 0x27]
  | .sra_B => [0xCB, 0x28]
  | .sra_C => [0xCB, 0x29]
  | .sra_D => [0xCB, 0x2A]
  | .sra_E => [0xCB, 0x2B]
  | .sra_H => [0xCB, 0x2C]
  | .sra_L => [0xCB, 0x2D]
  | .sra_mHL => [0xCB, 0x2E]
  | .sra_A => [0xCB, 0x2F]
  | .swap_B => [0xCB, 0x30]
  | .swap_C => [0xCB, 0x31]
  | .swap_D => [0xCB, 0x32]
  | .swap_E => [0xCB, 0x33]
  | .swap_H => [0xCB, 0x34]
  | .swap_L => [0xCB, 0x35]
  | .swap_mHL => [0xCB, 0x36]
  | .swap_A => [0xCB, 0x37]
  | .srl_B => [0xCB, 0x38]
  | .srl_C => [0xCB, 0x39]
  | .srl_D => [0xCB, 0x3A]
  | .srl_E => [0xCB, 0x3B]
  | .srl_H => [0xCB, 0x3C]
  | .srl_L => [0xCB, 0x3D]
  | .srl_mHL => [0xCB, 0x3E]
  | .srl_A => [0xCB, 0x3F]
  | .bit_0_B => [0xCB, 0x40]
  | .bit_0_C => [0xCB, 0x41]
  | .bit_0_D => [0xCB, 0x42]
  | .bit_0_E => [0xCB, 0x43]
  | .bit_0_H => [0xCB, 0x44]
  | .bit_0_L => [0xCB, 0x45]
  | .bit_0_mHL => [0xCB, 0x46]
  | .bit_0_A => [0xCB, 0x47]
  | .bit_1_B => [0xCB, 0x48]
  | .bit_1_C => [0xCB, 0x49]
  | .bit_1_D => [0xCB, 0x4A]
  | .bit_1_E => [0xCB, 0x4B]
  | .bit_1_H => [0xCB, 0x4C]
  | .bit_1_L => [0xCB, 0x4D]
  | .bit_1_mHL => [0xCB, 0x4E]
  | .bit_1_A => [0xCB, 0x4F]
  | .bit_2_B => [0xCB, 0x50]
  | .bit_2_C => [0xCB, 0x51]
  | .bit_2_D => [0xCB, 0x52]
  | .bit_2_E => [0xCB, 0x53]
  | .bit_2_H => [0xCB, 0x54]
  | .bit_2_L => [0xCB, 0x55]
  | .bit_2_mHL => [0xCB, 0x56]
  | .bit_2_A => [0xCB, 0x57]
  | .bit_3_B => [0xCB, 0x58]
  | .bit_3_C => [0xCB, 0x59]
  | .bit_3_D => [0xCB, 0x5A]
  | .bit_3_E => [0xCB, 0x5B]
  | .bit_3_H => [0xCB, 0x5C]
  | .bit_3_L => [0xCB, 0x5D]
  | .bit_3_mHL => [0xCB, 0x5E]
  | .bit_3_A => [0xCB, 0x5F]
  | .bit_4_B => [0xCB, 0x60]
  | .bit_4_C => [0xCB, 0x61]
  | .bit_4_D => [0xCB, 0x62]
  | .bit_4_E => [0xCB, 0x63]
  | .bit_4_H => [0xCB, 0x64]
  | .bit_4_L => [0xCB, 0x65]
  | .bit_4_mHL => [0xCB, 0x66]
  | .bit_4_A => [0xCB, 0x67]
  | .bit_5_B => [0xCB, 0x68]
  | .bit_5_C => [0xCB, 0x69]
  | .bit_5_D => [0xCB, 0x6A]
  | .bit_5_E => [0xCB, 0x6B]
  | .bit_5_H => [0xCB, 0x6C]
  | .bit_5_L => [0xCB, 0x6D]
  | .bit_5_mHL => [0xCB, 0x6E]
  | .bit_5_A => [0xCB, 0x6F]
  | .bit_6_B => [0xCB, 0x70]
  | .bit_6_C => [0xCB, 0x71]
  | .bit_6_D => [0xCB, 0x72]
  | .bit_6_E => [0xCB, 0x73]
  | .bit_6_H => [0xCB, 0x74]
  | .bit_6_L => [0xCB, 0x75]
  | .bit_6_mHL => [0xCB, 0x76]
  | .bit_6_A => [0xCB, 0x77]
  | .bit_7_B => [0xCB, 0x78]
  | .bit_7_C => [0xCB, 0x79]
  | .bit_7_D => [0xCB, 0x7A]
  | .bit_7_E => [0xCB, 0x7B]
  | .bit_7_H => [0xCB, 0x7C]
  | .bit_7_L => [0xCB, 0x7D]
  | .bit_7_mHL => [0xCB, 0x7E]
  | .bit_7_A => [0xCB, 0x7F]
  | .res_0_B => [0xCB, 0x80]
  | .res_0_C => [0xCB, 0x81]
  | .res_0_D => [0xCB, 0x82]
  | .res_0_E => [0xCB, 0x83]
  | .res_0_H => [0xCB, 0x84]
  | .res_0_L => [0xCB, 0x85]
  | .res_0_mHL => [0xCB, 0x86]
  | .res_0_A => [0xCB, 0x87]
  | .res_1_B => [0xCB, 0x88]
  | .res_1_C => [0xCB, 0x89]
  | .res_1_D => [0xCB, 0x8A]
  | .res_1_E => [0xCB, 0x8B]
  | .res_1_H => [0xCB, 0x8C]
  | .res_1_L => [0xCB, 0x8D]
  | .res_1_mHL => [0xCB, 0x8E]
  | .res_1_A => [0xCB, 0x8F]
  | .res_2_B => [0xCB, 0x90]
  | .res_2_C => [0xCB, 0x91]
  | .res_2_D => [0xCB, 0x92]
  | .res_2_E => [0xCB, 0x93]
  | .res_2_H => [0xCB, 0x94]
  | .res_2_L => [0xCB, 0x95]
  | .res_2_mHL => [0xCB, 0x96]
  | .res_2_A => [0xCB, 0x97]
  | .res_3_B => [0xCB, 0x98]
  | .res_3_C => [0xCB, 0x99]
  | .res_3_D => [0xCB, 0x9A]
  | .res_3_E => [0xCB, 0x9B]
  | .res_3_H => [0xCB, 0x9C]
  | .res_3_L => [0xCB, 0x9D]
  | .res_3_mHL => [0xCB, 0x9E]
  | .res_3_A => [0xCB, 0x9F]
  | .res_4_B => [0xCB, 0xA0]
  | .res_4_C => [0xCB, 0xA1]
  | .res_4_D => [0xCB, 0xA2]
  | .res_4_E => [0xCB, 0xA3]
  | .res_4_H => [0xCB, 0xA4]
  | .res_4_L => [0xCB, 0xA5]
  | .res_4_mHL => [0xCB, 0xA6]
  | .res_4_A => [0xCB, 0xA7]
  | .res_5_B => [0xCB, 0xA8]
  | .res_5_C => [0xCB, 0xA9]
  | .res_5_D => [0xCB, 0xAA]
  | .res_5_E => [0xCB, 0xAB]
  | .res_5_H => [0xCB, 0xAC]
  | .res_5_L => [0xCB, 0xAD]
  | .res_5_mHL => [0xCB, 0xAE]
  | .res_5_A => [0xCB, 0xAF]
  | .res_6_B => [0xCB, 0xB0]
  | .res_6_C => [0xCB, 0xB1]
  | .res_6_D => [0xCB, 0xB2]
  | .res_6_E => [0xCB, 0xB3]
  | .res_6_H => [0xCB, 0xB4]
  | .res_6_L => [0xCB, 0xB5]
  | .res_6_mHL => [0xCB, 0xB6]
  | .res_6_A => [0xCB, 0xB7]
  | .res_7_B => [0xCB, 0xB8]
  | .res_7_C => [0xCB, 0xB9]
  | .res_7_D => [0xCB, 0xBA]
  | .res_7_E => [0xCB, 0xBB]
  | .res_7_H => [0xCB, 0xBC]
  | .res_7_L => [0xCB, 0xBD]
  | .res_7_mHL => [0xCB, 0xBE]
  | .res_7_A => [0xCB, 0xBF]
  | .set_0_B => [0xCB, 0xC0]
  | .set_0_C => [0xCB, 0xC1]
  | .set_0_D => [0xCB, 0xC2]
  | .set_0_E => [0xCB, 0xC3]
  | .set_0_H => [0xCB, 0xC4]
  | .set_0_L => [0xCB, 0xC5]
  | .set_0_mHL => [0xCB, 0xC6]
  | .set_0_A => [0xCB, 0xC7]
  | .set_1_B => [0xCB, 0xC8]
  | .set_1_C => [0xCB, 0xC9]
  | .set_1_D => [0xCB, 0xCA]
  | .set_1_E => [0xCB, 0xCB]
  | .set_1_H => [0xCB, 0xCC]
  | .set_1_L => [0xCB, 0xCD]
  | .set_1_mHL => [0xCB, 0xCE]
  | .set_1_A => [0xCB, 0xCF]
  | .set_2_B => [0xCB, 0xD0]
  | .set_2_C => [0xCB, 0xD1]
  | .set_2_D => [0xCB, 0xD2]
  | .set_2_E => [0xCB, 0xD3]
  | .set_2_H => [0xCB, 0xD4]
  | .set_2_L => [0xCB, 0xD5]
  | .set_2_mHL => [0xCB, 0xD6]
  | .set_2_A => [0xCB, 0xD7]
  | .set_3_B => [0xCB, 0xD8]
  | .set_3_C => [0xCB, 0xD9]
  | .set_3_D => [0xCB, 0xDA]
  | .set_3_E => [0xCB, 0xDB]
  | .set_3_H => [0xCB, 0xDC]
  | .set_3_L => [0xCB, 0xDD]
  | .set_3_mHL => [0xCB, 0xDE]
  | .set_3_A => [0xCB, 0xDF]
  | .set_4_B => [0xCB, 0xE0]
  | .set_4_C => [0xCB, 0xE1]
  | .set_4_D => [0xCB, 0xE2]
  | .set_4_E => [0xCB, 0xE3]
  | .set_4_H => [0xCB, 0xE4]
  | .set_4_L => [0xCB, 0xE5]
  | .set_4_mHL => [0xCB, 0xE6]
  | .set_4_A => [0xCB, 0xE7]
  | .set_5_B => [0xCB, 0xE8]
  | .set_5_C => [0xCB, 0xE9]
  | .set_5_D => [0xCB, 0xEA]
  | .set_5_E => [0xCB, 0xEB]
  | .set_5_H => [0xCB, 0xEC]
  | .set_5_L => [0xCB, 0xED]
  | .set_5_mHL => [0xCB, 0xEE]
  | .set_5_A => [0xCB, 0xEF]
  | .set_6_B => [0xCB, 0xF0]
  | .set_6_C => [0xCB, 0xF1]
  | .set_6_D => [0xCB, 0xF2]
  | .set_6_E => [0xCB, 0xF3]
  | .set_6_H => [0xCB, 0xF4]
  | .set_6_L => [0xCB, 0xF5]
  | .set_6_mHL => [0xCB, 0xF6]
  | .set_6_A => [0xCB, 0xF7]
  | .set_7_B => [0xCB, 0xF8]
  | .set_7_C => [0xCB, 0xF9]
  | .set_7_D => [0xCB, 0xFA]
  | .set_7_E => [0xCB, 0xFB]
  | .set_7_H => [0xCB, 0xFC]
  | .set_7_L => [0xCB, 0xFD]
  | .set_7_mHL => [0xCB, 0xFE]
  | .set_7_A => [0xCB, 0xFF]

/-! ## Words of the opcode table -/

/-- The bytes of a table word, in the order they stand in memory, at least three of them. The table
numbers a CB row's two bytes as one 16-bit number with the prefix 0xCB in bits 15-8; every other row's
bytes follow from bit 0 up (notes/assumptions/11.md). Bits above `nbits` are 0. -/
def tableBytes (nbits w : Nat) : List Byte :=
  let v := w % 2 ^ nbits
  if nbits = 16 ∧ v / 256 = 0xCB then [0xCB, BitVec.ofNat 8 v, 0]
  else [BitVec.ofNat 8 v, BitVec.ofNat 8 (v / 2 ^ 8), BitVec.ofNat 8 (v / 2 ^ 16)]

/-- The instruction the decoder reads from a table word. The row of the prefix itself has the one byte
0xCB (notes/assumptions/10.md). -/
def decodeTableWord (nbits w : Nat) : Option Instr :=
  let bytes := if nbits = 8 ∧ w % 256 = 0xCB then [0xCB] else tableBytes nbits w
  match decode bytes with
  | .ok (i, _) => some i
  | .error _ => none

end Sys2Proof
end

