-- ==== Sys2Proof/Config.lean ====
section
/-! DEFINITION. What is fixed for a session (00_scope.md R10) and the one free value the spec leaves
open for every session: the colour of a shade. The default values of the parameters stand in
Machine/Defaults.lean. -/

namespace Sys2Proof

/-- What HALT does when IME = 0 and an interrupt is already pending (R322, 92_eei_decisions.md D8). -/
inductive HaltBugMode where
  /-- The source's behaviour: PC skips two bytes. -/
  | skip2
  /-- The hardware's behaviour: the byte after HALT is read twice. -/
  | replay
  /-- HALT enters Halted and wakes at the next step. -/
  | ignore
  deriving DecidableEq, Repr

/-- The cartridge bank controller (R54, R100): no controller, MBC1 (A), MBC3 (B) or MBC5 (C). -/
inductive Variant where
  | none
  | A
  | B
  | C
  deriving DecidableEq, Repr

/-- `CYCLES` (D4): the cost an instruction reports, by its first byte, or after the prefix by its second.
Every function from bytes to costs is one such table. -/
@[ext] structure CycleTable where
  /-- The cost of an unprefixed instruction; of a conditional one, when taken. -/
  op : Vector Nat 256
  /-- The cost of a conditional instruction when not taken; read for no other first byte. -/
  notTaken : Vector Nat 256
  /-- The cost of a CB instruction, by its second byte. -/
  cb : Vector Nat 256
  deriving DecidableEq, Repr

/-- `JOYPAD_READ` (D24): the four lines that a selection and the buttons give. Every such function is
some table; its default has a constructor of its own. -/
inductive JoypadRead where
  /-- The default of R50. -/
  | matrix
  /-- Entry `{sel, Start, Select, B, A, Down, Up, Left, Right}` is the value at those arguments. -/
  | table (values : Vector (BitVec 4) 1024)
  deriving DecidableEq, Repr

/-- `CART_TYPE_TABLE`, `ROM_SIZE_TABLE` and `RAM_SIZE_TABLE` (D18, R100-R102): for each header byte a table
supports, a row with what it stands for. The first row of a byte counts. -/
structure HeaderTables where
  cartTypes : List (Byte × Variant)
  /-- Sizes in bytes. -/
  romSizes : List (Byte × Nat)
  /-- Sizes in bytes. -/
  ramSizes : List (Byte × Nat)
  deriving DecidableEq, Repr

/-- The parameters of R10 that a step reads. They are plain data, so the state carries them
(notes/assumptions/1.md): every value of each is modelled. The parameters that only a load reads are its
arguments (Machine/HostInterface.lean). -/
@[ext] structure Params where
  /-- `HALT_BUG_MODE` (D8). -/
  haltBugMode : HaltBugMode
  /-- `EI_DELAY` (D9). -/
  eiDelay : Bool
  /-- `MBC_C_ZERO_REMAP` (D16). -/
  mbcCZeroRemap : Bool
  /-- `SPRITE_LIMIT` (D33). -/
  spriteLimit : Option Nat
  /-- `JOYPAD_READ` (D24). -/
  joypadRead : JoypadRead
  /-- `AUDIO_STATUS`, bits 3-0 of NR52 (D26). -/
  audioStatus : BitVec 4
  /-- `CYCLES` (D4). -/
  cycles : CycleTable
  deriving DecidableEq, Repr

/-- A palette output, 0 to 3 (R455). -/
abbrev Shade := BitVec 2

/-- `SHADE_RGBA`, OPEN (D34): the RGBA32 colour of each shade. It has no body a proof could use
(notes/assumptions/8.md). -/
opaque Config.shadeRgba : Shade → BitVec 32

end Sys2Proof
end

