-- ==== Sys2Proof/Machine/Defaults.lean ====
section
/-! DEFINITION. The default values that the spec gives to the parameters of 00_scope.md R10: the cost table
(70_reset_and_hazards.md R530), the header tables (20_memory.md R100-R102) and the rest. -/

namespace Sys2Proof

/-! ## `CYCLES` (R530) -/

/-- Rows 0 to 3 of R530: a conditional form's cost when taken, and 0 where the table has `-`. -/
def CycleTable.rows03 : List Nat :=
  [4, 12, 8, 8, 4, 4, 8, 4, 20, 8, 8, 8, 4, 4, 8, 4] ++
    [0, 12, 8, 8, 4, 4, 8, 4, 12, 8, 8, 8, 4, 4, 8, 4] ++
    [12, 12, 8, 8, 4, 4, 8, 4, 12, 8, 8, 8, 4, 4, 8, 4] ++
    [12, 12, 8, 8, 12, 12, 12, 4, 12, 8, 8, 8, 4, 4, 8, 4]

/-- Rows 4 to 7 of R530. -/
def CycleTable.rows47 : List Nat :=
  [4, 4, 4, 4, 4, 4, 8, 4, 4, 4, 4, 4, 4, 4, 8, 4] ++
    [4, 4, 4, 4, 4, 4, 8, 4, 4, 4, 4, 4, 4, 4, 8, 4] ++
    [4, 4, 4, 4, 4, 4, 8, 4, 4, 4, 4, 4, 4, 4, 8, 4] ++
    [8, 8, 8, 8, 8, 8, 4, 8, 4, 4, 4, 4, 4, 4, 8, 4]

/-- A row of block x = 2 (rows 8 to B of R530). -/
def CycleTable.aluRow : List Nat := [4, 4, 4, 4, 4, 4, 8, 4, 4, 4, 4, 4, 4, 4, 8, 4]

/-- Rows C to F of R530. -/
def CycleTable.rowsCF : List Nat :=
  [20, 12, 16, 16, 24, 16, 8, 16, 20, 16, 16, 0, 24, 24, 8, 16] ++
    [20, 12, 16, 0, 24, 16, 8, 16, 20, 16, 16, 0, 24, 0, 8, 16] ++
    [12, 12, 8, 0, 0, 16, 8, 16, 16, 4, 16, 0, 0, 0, 8, 16] ++
    [12, 12, 8, 4, 0, 16, 8, 16, 12, 8, 16, 4, 0, 0, 8, 16]

/-- The costs when not taken in rows 2 and 3 of R530, and in rows C and D; 0 for every other form. -/
def CycleTable.notTakenRows : List Nat :=
  let jr := [8, 0, 0, 0, 0, 0, 0, 0, 8, 0, 0, 0, 0, 0, 0, 0]
  let rest := [8, 0, 12, 0, 12, 0, 0, 0, 8, 0, 12, 0, 12, 0, 0, 0]
  List.replicate 32 0 ++ jr ++ jr ++ List.replicate 128 0 ++ rest ++ rest ++ List.replicate 32 0

/-- Eight CB costs, those of the operands B, C, D, E, H, L, (HL) and A. -/
def CycleTable.cbOctet (memory : Nat) : List Nat := [8, 8, 8, 8, 8, 8, memory, 8]

/-- The CB costs of R530: 16 on (HL), but 12 for BIT. -/
def CycleTable.cbRows : List Nat :=
  (List.replicate 8 (CycleTable.cbOctet 16)).flatten ++ (List.replicate 8 (CycleTable.cbOctet 12)).flatten ++
    (List.replicate 16 (CycleTable.cbOctet 16)).flatten

/-- The op table's rows in their order. -/
def CycleTable.opRows : List Nat :=
  rows03 ++ rows47 ++ (aluRow ++ aluRow) ++ (aluRow ++ aluRow) ++ rowsCF

theorem CycleTable.length_opRows : opRows.length = 256 := by
  have h0 : rows03.length = 64 := rfl
  have h1 : rows47.length = 64 := rfl
  have h2 : aluRow.length = 16 := rfl
  have h3 : rowsCF.length = 64 := rfl
  simp only [opRows, List.length_append, h0, h1, h2, h3]

theorem CycleTable.length_notTakenRows : notTakenRows.length = 256 := by
  simp only [notTakenRows, List.length_append, List.length_replicate, List.length_cons, List.length_nil]

theorem CycleTable.length_cbRows : cbRows.length = 256 := by
  have h : ∀ m, (cbOctet m).length = 8 := fun _ => rfl
  simp only [cbRows, List.length_append, List.length_flatten, List.map_replicate, List.sum_replicate, h,
    smul_eq_mul]

/-- The default `CYCLES` (R530). -/
def CycleTable.default : CycleTable where
  op := ⟨⟨opRows⟩, length_opRows⟩
  notTaken := ⟨⟨notTakenRows⟩, length_notTakenRows⟩
  cb := ⟨⟨cbRows⟩, length_cbRows⟩

/-! ## The header tables (R100-R102) -/

/-- The default `CART_TYPE_TABLE` (R100). -/
def HeaderTables.defaultCartTypes : List (Byte × Variant) :=
  [(0x00, .none), (0x01, .A), (0x02, .A), (0x03, .A), (0x0F, .B), (0x10, .B), (0x11, .B), (0x12, .B),
    (0x13, .B), (0x19, .C), (0x1A, .C), (0x1B, .C), (0x1C, .C), (0x1D, .C), (0x1E, .C)]

/-- The default `ROM_SIZE_TABLE` (R101): `32768 << n`. -/
def HeaderTables.defaultRomSizes : List (Byte × Nat) :=
  (List.range 9).map fun n => (BitVec.ofNat 8 n, 32768 * 2 ^ n)

/-- The default `RAM_SIZE_TABLE` (R102). -/
def HeaderTables.defaultRamSizes : List (Byte × Nat) :=
  [(0x00, 0), (0x01, 2048), (0x02, 8192), (0x03, 32768), (0x04, 131072), (0x05, 65536)]

/-- The default header tables. -/
def HeaderTables.default : HeaderTables where
  cartTypes := defaultCartTypes
  romSizes := defaultRomSizes
  ramSizes := defaultRamSizes

/-! ## The rest -/

/-- The defaults of R10. -/
def Params.default : Params where
  haltBugMode := .skip2
  eiDelay := false
  mbcCZeroRemap := true
  spriteLimit := none
  joypadRead := .matrix
  audioStatus := 0
  cycles := CycleTable.default

end Sys2Proof
end

