-- ==== Sys2Proof/Machine/State.lean ====
section
/-! DEFINITION. The state of the block (10_state.md), the reasons a step can stop (60_exceptions.md R400)
and the state after power-on without the overlay (10_state.md R56-R57). State is plain data. -/

namespace Sys2Proof.Machine

/-- The fault kinds of R400, with what each records. Raising one ends the run as the spec says, so each
is safe: no claim is made about what the block does afterwards. -/
inductive Fault where
  /-- Code 1: the fetched byte is illegal (R327). Raised by the meanings of the 11 illegal bytes; safe. -/
  | illegalOpcode (pc : Word) (opcode : Byte)
  /-- Code 2: STOP was executed (R326). Raised by the meaning of STOP; safe. -/
  | unmodelled (pc : Word) (opcode : Byte)
  /-- Code 16: load was given no image (R103). Raised by `load`; safe. -/
  | missingImage
  /-- Code 17: the image is shorter than 0x150 bytes (R103). Raised by `load`; safe. -/
  | truncatedHeader (length : Nat)
  /-- Code 18: header byte 0x147 names no variant (R100). Raised by `load`; safe. -/
  | unsupportedCartType (byte : Byte)
  /-- Code 19: header byte 0x148 names no size (R101). Raised by `load`; safe. -/
  | unsupportedRomSize (byte : Byte)
  /-- Code 20: header byte 0x149 names no size (R102). Raised by `load`; safe. -/
  | unsupportedRamSize (byte : Byte)
  deriving DecidableEq, Repr

/-- Why a step is refused. -/
inductive Refusal where
  /-- The instruction has no meaning in the model yet. Raised by a rejected arm of `exec`, and no arm is
  one; safe. -/
  | notModelled (mnemonic : String)
  deriving DecidableEq, Repr

/-- `run_state` (R28). -/
inductive RunState where
  | running
  | halted
  deriving DecidableEq, Repr

/-- The CPU registers and control state (R20-R30). AF, BC, DE and HL are views (R21), not fields. -/
@[ext] structure Cpu where
  a : Byte
  f : Byte
  b : Byte
  c : Byte
  d : Byte
  e : Byte
  h : Byte
  l : Byte
  sp : Word
  pc : Word
  /-- IME (R27). -/
  ime : Bool
  runState : RunState
  /-- `ei_pending` (R29). -/
  eiPending : Bool
  /-- `halt_bug_pending` (R30). -/
  haltBugPending : Bool
  deriving DecidableEq, Repr

/-- IF (R33) and IE (R34). -/
@[ext] structure Irq where
  /-- IF, the requests, bits 4-0. -/
  req : Byte
  /-- IE, the enables; bits 7-5 are stored and have no effect. -/
  en : Byte
  deriving DecidableEq, Repr

/-- The divider and the programmable timer (R35-R40). -/
@[ext] structure Timer where
  div : Byte
  divAcc : Nat
  tima : Byte
  tma : Byte
  /-- TAC, bits 2-0. -/
  tac : Byte
  timaAcc : Nat
  deriving DecidableEq, Repr

/-- OAM DMA (R41). -/
@[ext] structure Dma where
  /-- The last byte written to 0xFF46. -/
  reg : Byte
  active : Bool
  page : Byte
  remaining : Nat
  deriving DecidableEq, Repr

/-- `ppu_mode` (R49). -/
inductive PpuMode where
  | oamSearch
  | pixelTransfer
  | hBlank
  | vBlank
  deriving DecidableEq, Repr

/-- The snapshot of one OAM entry (R448): its four bytes. -/
@[ext] structure OamEntry where
  y : Byte
  x : Byte
  tile : Byte
  flags : Byte
  deriving DecidableEq, Repr

/-- The PPU registers and internal state (R42-R49). -/
@[ext] structure Ppu where
  lcdc : Byte
  /-- The STAT enables, bits 6-3 (R43). -/
  statEnables : Byte
  scy : Byte
  scx : Byte
  ly : Byte
  lyc : Byte
  bgp : Byte
  obp0 : Byte
  obp1 : Byte
  wy : Byte
  wx : Byte
  mode : PpuMode
  acc : Nat
  lycEqual : Bool
  spritesNormal : List OamEntry
  spritesBehind : List OamEntry
  /-- 144 rows of 160 shades; a pixel is shown as `SHADE_RGBA` of its shade (notes/assumptions/8.md). -/
  framebuffer : List (List Shade)
  displayWasOff : Bool
  deriving DecidableEq, Repr

/-- The sound registers' storage (R52). -/
@[ext] structure Sound where
  nr10 : Byte
  nr11 : Byte
  nr12 : Byte
  nr13 : Byte
  nr14 : Byte
  nr21 : Byte
  nr22 : Byte
  nr23 : Byte
  nr24 : Byte
  nr30 : Byte
  nr31 : Byte
  nr32 : Byte
  nr33 : Byte
  nr34 : Byte
  nr41 : Byte
  nr42 : Byte
  nr43 : Byte
  nr44 : Byte
  nr50 : Byte
  nr51 : Byte
  /-- `nr52_bit7`. -/
  nr52On : Bool
  deriving DecidableEq, Repr

/-- The eight buttons, owned by the host (R59). -/
@[ext] structure Buttons where
  right : Bool
  left : Bool
  up : Bool
  down : Bool
  a : Bool
  b : Bool
  select : Bool
  start : Bool
  deriving DecidableEq, Repr

/-- The cartridge apart from its bytes (R54): what the header fixes and the bank state. -/
@[ext] structure Cart where
  variant : Variant
  romSize : Nat
  ramSize : Nat
  romBank : BitVec 9
  ramBank : BitVec 4
  ramEnable : Bool
  bankMode : BitVec 1
  deriving DecidableEq, Repr

/-- The byte arrays of the block as one list of (key, byte) cells in canonical form: ROM, cartridge RAM,
VRAM, WRAM, OAM, HRAM, wave RAM and the boot overlay (R53-R55, R95). Machine/Memory.lean gives each its
keys, says what an unlisted key reads as, and defines the form. -/
abbrev Memory := List Host.Cell

/-- The state of the whole block. -/
@[ext]
structure State where
  cpu : Cpu
  irq : Irq
  timer : Timer
  dma : Dma
  ppu : Ppu
  sound : Sound
  /-- P1's select lines, bits 5-4 (R50). -/
  p1Select : Byte
  /-- SB (R51). -/
  sb : Byte
  /-- SC, bits 7 and 0 (R51). -/
  sc : Byte
  buttons : Buttons
  cart : Cart
  mem : Memory
  /-- `overlay_active` (R31). -/
  overlayActive : Bool
  /-- The first fault raised (R32). -/
  fault : Option Fault
  /-- The session's parameters (R10). No step changes them. -/
  params : Params
  /-- The cost the last CPU step reported (R15, R470). -/
  cycles : Nat
  deriving DecidableEq, Repr

/-- The CPU at power-on without the overlay (R56). -/
def Cpu.reset : Cpu where
  a := 0x01
  f := 0xB0
  b := 0x00
  c := 0x13
  d := 0x00
  e := 0xD8
  h := 0x01
  l := 0x4D
  sp := 0xFFFE
  pc := 0x0100
  ime := false
  runState := .running
  eiPending := false
  haltBugPending := false

/-- A framebuffer whose every pixel is shade 0 (R57). -/
def Ppu.blankFrame : List (List Shade) := List.replicate 144 (List.replicate 160 0)

/-- The PPU at power-on without the overlay (R57). OBP0 and OBP1 are 0x00, a DESIGN CHOICE
(notes/assumptions/5.md); the sprite lists are those gathered for LY = 0 from the reset OAM. -/
def Ppu.reset : Ppu where
  lcdc := 0x91
  statEnables := 0x00
  scy := 0x00
  scx := 0x00
  ly := 0
  lyc := 0x00
  bgp := 0xFC
  obp0 := 0x00
  obp1 := 0x00
  wy := 0x00
  wx := 0x00
  mode := .oamSearch
  acc := 0
  lycEqual := true
  spritesNormal := []
  spritesBehind := []
  framebuffer := Ppu.blankFrame
  displayWasOff := false

/-- The sound registers at power-on (R57). -/
def Sound.reset : Sound where
  nr10 := 0x80
  nr11 := 0xBF
  nr12 := 0xF3
  nr13 := 0xFF
  nr14 := 0xBF
  nr21 := 0x3F
  nr22 := 0x00
  nr23 := 0xFF
  nr24 := 0xBF
  nr30 := 0x7F
  nr31 := 0xFF
  nr32 := 0x9F
  nr33 := 0xFF
  nr34 := 0xBF
  nr41 := 0xFF
  nr42 := 0x00
  nr43 := 0x00
  nr44 := 0xBF
  nr50 := 0x77
  nr51 := 0xF3
  nr52On := true

/-- No button is pressed (R59). -/
def Buttons.none : Buttons :=
  ⟨false, false, false, false, false, false, false, false⟩

/-- A cartridge with the header's facts given and the bank state of R114. -/
def Cart.powerOn (variant : Variant) (romSize ramSize : Nat) : Cart where
  variant := variant
  romSize := romSize
  ramSize := ramSize
  romBank := 1
  ramBank := 0
  ramEnable := false
  bankMode := 0

/-- The block right after power-on without the overlay (R56-R57, R59, R114, R500). No image is in it: its
cartridge is blank, variant None, 32 KiB and no RAM (notes/assumptions/4.md), and nothing is listed in
memory (notes/assumptions/3.md). -/
def State.reset : State where
  cpu := Cpu.reset
  irq := { req := 0x01, en := 0x00 }
  timer := { div := 0xAB, divAcc := 0, tima := 0x00, tma := 0x00, tac := 0x00, timaAcc := 0 }
  dma := { reg := 0xFF, active := false, page := 0x00, remaining := 0 }
  ppu := Ppu.reset
  sound := Sound.reset
  p1Select := 0x00
  sb := 0x00
  sc := 0x00
  buttons := Buttons.none
  cart := Cart.powerOn .none 32768 0
  mem := []
  overlayActive := false
  fault := none
  params := Params.default
  cycles := 0

end Sys2Proof.Machine
end

