-- ==== Sys2Proof/Machine/Memory.lean ====
section
/-! DEFINITION. The byte store behind the bus (10_state.md R53-R55, 20_memory.md R95): a list of (key,
byte) cells in canonical form, keys strictly rising and no cell equal to what its key reads as unlisted.

Keys (notes/assumptions/14.md): the overlay, VRAM, WRAM, OAM, wave RAM and HRAM keep their bus addresses;
cartridge RAM byte `i` has key `0x10000 + i`; ROM byte `i` has key `0x100000 + i`. -/

namespace Sys2Proof.Machine

/-- The key of cartridge RAM byte 0. -/
def cartRamBase : Nat := 0x10000

/-- The key of ROM byte 0. -/
def romBase : Nat := 0x100000

/-- What an unlisted key reads as: 0xFF in ROM, the byte R103 pads a short image with; 0x00 elsewhere, a
DESIGN CHOICE for the OPEN `INIT_RAM` and `CART_RAM_INIT` (notes/assumptions/3.md). -/
def unlisted (k : Nat) : Byte := if romBase ≤ k then 0xFF else 0x00

/-- The byte at a key. -/
def Memory.read : Memory → Nat → Byte
  | [], k => unlisted k
  | (a, v) :: m, k => if a = k then v else Memory.read m k

/-- The cells without those of a key. -/
def Memory.erase : Memory → Nat → Memory
  | [], _ => []
  | (a, v) :: m, k => if a = k then Memory.erase m k else (a, v) :: Memory.erase m k

/-- The cells with one more, put before the first larger key. -/
def Memory.insert : Memory → Nat → Byte → Memory
  | [], k, v => [(k, v)]
  | (a, w) :: m, k, v =>
    if a < k then (a, w) :: Memory.insert m k v else (k, v) :: (a, w) :: m

/-- Write a byte: the key's old cell goes, and a new one comes unless the byte is what the key reads as
unlisted. -/
def Memory.write (m : Memory) (k : Nat) (v : Byte) : Memory :=
  if v = unlisted k then Memory.erase m k else Memory.insert (Memory.erase m k) k v

/-- Canonical form from key `lo` up. -/
def Memory.wfFrom : Nat → Memory → Bool
  | _, [] => true
  | lo, (a, v) :: m => decide (lo ≤ a) && decide (v ≠ unlisted a) && Memory.wfFrom (a + 1) m

/-- Canonical form. -/
def Memory.wf (m : Memory) : Bool := Memory.wfFrom 0 m

/-- The memory that holds the given cells, the last one of a key winning. -/
def Memory.ofCells (cells : List Host.Cell) : Memory :=
  cells.foldl (fun m c => Memory.write m c.1 c.2) []

/-- Consecutive bytes as cells from a key up, less those the key reads as unlisted. -/
def cellsFrom : Nat → List Byte → List Host.Cell
  | _, [] => []
  | k, v :: vs => if v = unlisted k then cellsFrom (k + 1) vs else (k, v) :: cellsFrom (k + 1) vs

/-- Read one key of the state's store. -/
def State.readKey (s : State) (k : Nat) : Byte := Memory.read s.mem k

/-- Write one key of the state's store. -/
def State.writeKey (s : State) (k : Nat) (v : Byte) : State :=
  { s with mem := Memory.write s.mem k v }

end Sys2Proof.Machine
end

