-- ==== Sys2Proof/Machine/Cart.lean ====
section
/-! DEFINITION. The cartridge: what the header bytes stand for (20_memory.md R100-R102), the bytes a bus address selects
(R104-R106) and the bank controllers (R107-R115). -/

namespace Sys2Proof.Machine

/-- `CART_TYPE_TABLE` (R100): the variant of header byte 0x147. -/
def cartTypeOf (t : HeaderTables) (b : Byte) : Option Variant := t.cartTypes.lookup b

/-- `ROM_SIZE_TABLE` (R101): the ROM size in bytes of header byte 0x148. -/
def romSizeOf (t : HeaderTables) (b : Byte) : Option Nat := t.romSizes.lookup b

/-- `RAM_SIZE_TABLE` (R102): the RAM size in bytes of header byte 0x149. -/
def ramSizeOf (t : HeaderTables) (b : Byte) : Option Nat := t.ramSizes.lookup b

/-- `rom_banks` (R54). -/
def Cart.romBanks (c : Cart) : Nat := c.romSize / 16384

/-- `ram_banks` (R54). -/
def Cart.ramBanks (c : Cart) : Nat := max 1 (c.ramSize / 8192)

/-- The bank that 0x4000-0x7FFF shows (R104, R106). -/
def Cart.effectiveRomBank (c : Cart) : Nat :=
  if c.variant = .none then 1 else c.romBank.toNat % c.romBanks

/-- The key of the ROM byte at a bus address in 0x0000-0x7FFF (R104); the remainder is the place in the
16 KiB window. -/
def Cart.romKey (c : Cart) (a : Word) : Nat :=
  if a.toNat < 0x4000 then romBase + a.toNat
  else romBase + (c.effectiveRomBank * 0x4000 + a.toNat % 0x4000)

/-- `ram_accessible` (R105). -/
def Cart.ramAccessible (c : Cart) : Bool :=
  decide (0 < c.ramSize) && (decide (c.variant = .none) || c.ramEnable)

/-- `ram_index` (R105); the remainder is the place in the 8 KiB window. -/
def Cart.ramIndex (c : Cart) (a : Word) : Nat :=
  (c.ramBank.toNat % c.ramBanks * 0x2000 + a.toNat % 0x2000) % c.ramSize

/-- The key of the cartridge RAM byte at a bus address in 0xA000-0xBFFF. -/
def Cart.ramKey (c : Cart) (a : Word) : Nat := cartRamBase + c.ramIndex a

/-- RAM enable, common to Variants A, B and C (R107). -/
def Cart.writeRamEnable (v : Byte) (c : Cart) : Cart :=
  { c with ramEnable := decide (v &&& 0x0F = 0x0A) }

/-- Variant A, the MBC1 (R109). -/
def Cart.controlA (a : Word) (v : Byte) (c : Cart) : Cart :=
  if a.toNat < 0x2000 then c.writeRamEnable v
  else if a.toNat < 0x4000 then
    let lo := v &&& 0x1F
    let lo := if lo = 0 then 1 else lo
    { c with romBank := (c.romBank &&& 0x60) ||| lo.setWidth 9 }
  else if a.toNat < 0x6000 then
    if c.bankMode = 0 then
      { c with romBank := (c.romBank &&& 0x1F) ||| ((v &&& 0x03).setWidth 9 <<< 5) }
    else { c with ramBank := (v &&& 0x03).setWidth 4 }
  else { c with bankMode := v.setWidth 1 }

/-- Variant B, the MBC3 (R112): RTC register selects and the RTC latch are ignored. -/
def Cart.controlB (a : Word) (v : Byte) (c : Cart) : Cart :=
  if a.toNat < 0x2000 then c.writeRamEnable v
  else if a.toNat < 0x4000 then
    let b := v &&& 0x7F
    let b := if b = 0 then 1 else b
    { c with romBank := b.setWidth 9 }
  else if a.toNat < 0x6000 then
    if v.toNat ≤ 0x07 then { c with ramBank := v.setWidth 4 } else c
  else c

/-- Variant C, the MBC5 (R113). -/
def Cart.controlC (zeroRemap : Bool) (a : Word) (v : Byte) (c : Cart) : Cart :=
  if a.toNat < 0x2000 then c.writeRamEnable v
  else if a.toNat < 0x3000 then
    let lo := if zeroRemap ∧ v = 0 then 1 else v
    { c with romBank := (c.romBank &&& 0x100) ||| lo.setWidth 9 }
  else if a.toNat < 0x4000 then
    { c with romBank := (c.romBank &&& 0x0FF) ||| ((v &&& 0x01).setWidth 9 <<< 8) }
  else if a.toNat < 0x6000 then { c with ramBank := (v &&& 0x0F).setWidth 4 }
  else c

/-- `CartControlWrite` (R107-R113); Variant None ignores every write (R108). -/
def Cart.control (zeroRemap : Bool) (a : Word) (v : Byte) (c : Cart) : Cart :=
  match c.variant with
  | .none => c
  | .A => c.controlA a v
  | .B => c.controlB a v
  | .C => c.controlC zeroRemap a v

end Sys2Proof.Machine
end

