-- ==== Sys2Proof/Machine/Io.lean ====
section
/-! DEFINITION. The I/O registers at 0xFF00-0xFF7F: which register an address is, what a read returns
(20_memory.md R92, R94) and what a write does (R93). -/

namespace Sys2Proof.Machine

/-- The sound registers but NR52 (10_state.md R52). -/
inductive SoundReg where
  | nr10
  | nr11
  | nr12
  | nr13
  | nr14
  | nr21
  | nr22
  | nr23
  | nr24
  | nr30
  | nr31
  | nr32
  | nr33
  | nr34
  | nr41
  | nr42
  | nr43
  | nr44
  | nr50
  | nr51
  deriving DecidableEq, Repr

/-- What an address of the I/O page is (R92-R94). -/
inductive IoReg where
  | p1
  | sb
  | sc
  | div
  | tima
  | tma
  | tac
  | irq
  | sound (r : SoundReg)
  | nr52
  | wave
  | lcdc
  | stat
  | scy
  | scx
  | ly
  | lyc
  | dma
  | bgp
  | obp0
  | obp1
  | wy
  | wx
  | hole
  deriving DecidableEq, Repr

/-- The sound register at `0xFF10 + i` (R52). -/
def soundRegAt (i : Nat) : Option SoundReg :=
  match i with
  | 0x00 => some .nr10
  | 0x01 => some .nr11
  | 0x02 => some .nr12
  | 0x03 => some .nr13
  | 0x04 => some .nr14
  | 0x06 => some .nr21
  | 0x07 => some .nr22
  | 0x08 => some .nr23
  | 0x09 => some .nr24
  | 0x0A => some .nr30
  | 0x0B => some .nr31
  | 0x0C => some .nr32
  | 0x0D => some .nr33
  | 0x0E => some .nr34
  | 0x10 => some .nr41
  | 0x11 => some .nr42
  | 0x12 => some .nr43
  | 0x13 => some .nr44
  | 0x14 => some .nr50
  | 0x15 => some .nr51
  | _ => none

/-- The register at `0xFF00 + i`, `i` below 0x10 (R92). -/
def lowRegAt (i : Nat) : IoReg :=
  match i with
  | 0x0 => .p1
  | 0x1 => .sb
  | 0x2 => .sc
  | 0x4 => .div
  | 0x5 => .tima
  | 0x6 => .tma
  | 0x7 => .tac
  | 0xF => .irq
  | _ => .hole

/-- The register at `0xFF40 + i` (R92). -/
def ppuRegAt (i : Nat) : IoReg :=
  match i with
  | 0x0 => .lcdc
  | 0x1 => .stat
  | 0x2 => .scy
  | 0x3 => .scx
  | 0x4 => .ly
  | 0x5 => .lyc
  | 0x6 => .dma
  | 0x7 => .bgp
  | 0x8 => .obp0
  | 0x9 => .obp1
  | 0xA => .wy
  | 0xB => .wx
  | _ => .hole

/-- What the address `0xFF00 + n` is (R92-R94). -/
def ioRegAt (n : Nat) : IoReg :=
  if n < 0x10 then lowRegAt n
  else if n < 0x26 then
    match soundRegAt (n - 0x10) with
    | some r => .sound r
    | none => .hole
  else if n = 0x26 then .nr52
  else if n < 0x30 then .hole
  else if n < 0x40 then .wave
  else ppuRegAt (n - 0x40)

/-- What an address of the I/O page is: its low byte says. -/
def ioRegister (a : Word) : IoReg := ioRegAt (a.toNat % 0x100)

/-- The default of `JOYPAD_READ` (R50, D24): `sel` is P1 bits 5 and 4; a selected group's pressed buttons
read 0. -/
def joypadMatrix (sel : BitVec 2) (b : Buttons) : BitVec 4 :=
  let line (button direction : Bool) : Bool :=
    !((!sel.getLsbD 1 && button) || (!sel.getLsbD 0 && direction))
  BitVec.ofBool (line b.start b.down) ++ BitVec.ofBool (line b.select b.up) ++
    BitVec.ofBool (line b.b b.left) ++ BitVec.ofBool (line b.a b.right)

/-- The entry of a `JOYPAD_READ` table at a selection and the buttons. -/
def joypadIndex (sel : BitVec 2) (b : Buttons) : BitVec 10 :=
  sel ++ BitVec.ofBool b.start ++ BitVec.ofBool b.select ++ BitVec.ofBool b.b ++ BitVec.ofBool b.a ++
    BitVec.ofBool b.down ++ BitVec.ofBool b.up ++ BitVec.ofBool b.left ++ BitVec.ofBool b.right

/-- `JOYPAD_READ` (R50): its value at a selection and the buttons. -/
def joypadLines (j : JoypadRead) (sel : BitVec 2) (b : Buttons) : BitVec 4 :=
  match j with
  | .matrix => joypadMatrix sel b
  | .table values => values[(joypadIndex sel b).toNat]'(joypadIndex sel b).isLt

/-- What a read of P1 returns (R50). -/
def State.readP1 (s : State) : Byte :=
  0xC0 ||| s.p1Select |||
    (joypadLines s.params.joypadRead ((s.p1Select >>> 4).setWidth 2) s.buttons).setWidth 8

/-- The number of a mode (R19). -/
def PpuMode.number : PpuMode → Byte
  | .hBlank => 0
  | .vBlank => 1
  | .oamSearch => 2
  | .pixelTransfer => 3

/-- What a read of STAT returns (R43): the mode bits read 0 while the display is off. -/
def Ppu.readStat (p : Ppu) : Byte :=
  0x80 ||| (p.statEnables &&& 0x78) ||| (if p.lycEqual then 0x04 else 0x00) |||
    (if p.lcdc.getLsbD 7 then p.mode.number else 0)

/-- The stored byte of a sound register (R52). -/
def Sound.stored (d : Sound) (r : SoundReg) : Byte :=
  match r with
  | .nr10 => d.nr10
  | .nr11 => d.nr11
  | .nr12 => d.nr12
  | .nr13 => d.nr13
  | .nr14 => d.nr14
  | .nr21 => d.nr21
  | .nr22 => d.nr22
  | .nr23 => d.nr23
  | .nr24 => d.nr24
  | .nr30 => d.nr30
  | .nr31 => d.nr31
  | .nr32 => d.nr32
  | .nr33 => d.nr33
  | .nr34 => d.nr34
  | .nr41 => d.nr41
  | .nr42 => d.nr42
  | .nr43 => d.nr43
  | .nr44 => d.nr44
  | .nr50 => d.nr50
  | .nr51 => d.nr51

/-- The bits a read of a sound register forces high (R52). -/
def soundMask (r : SoundReg) : Byte :=
  match r with
  | .nr10 => 0x80
  | .nr11 => 0x3F
  | .nr12 => 0x00
  | .nr13 => 0xFF
  | .nr14 => 0xBF
  | .nr21 => 0x3F
  | .nr22 => 0x00
  | .nr23 => 0xFF
  | .nr24 => 0xBF
  | .nr30 => 0x7F
  | .nr31 => 0xFF
  | .nr32 => 0x9F
  | .nr33 => 0xFF
  | .nr34 => 0xBF
  | .nr41 => 0xFF
  | .nr42 => 0x00
  | .nr43 => 0x00
  | .nr44 => 0xBF
  | .nr50 => 0x00
  | .nr51 => 0x00

/-- A write to a sound register stores the byte (R52, R93). -/
def Sound.store (d : Sound) (r : SoundReg) (v : Byte) : Sound :=
  match r with
  | .nr10 => { d with nr10 := v }
  | .nr11 => { d with nr11 := v }
  | .nr12 => { d with nr12 := v }
  | .nr13 => { d with nr13 := v }
  | .nr14 => { d with nr14 := v }
  | .nr21 => { d with nr21 := v }
  | .nr22 => { d with nr22 := v }
  | .nr23 => { d with nr23 := v }
  | .nr24 => { d with nr24 := v }
  | .nr30 => { d with nr30 := v }
  | .nr31 => { d with nr31 := v }
  | .nr32 => { d with nr32 := v }
  | .nr33 => { d with nr33 := v }
  | .nr34 => { d with nr34 := v }
  | .nr41 => { d with nr41 := v }
  | .nr42 => { d with nr42 := v }
  | .nr43 => { d with nr43 := v }
  | .nr44 => { d with nr44 := v }
  | .nr50 => { d with nr50 := v }
  | .nr51 => { d with nr51 := v }

/-- What a read of NR52 returns (R52). -/
def Sound.readNr52 (d : Sound) (audioStatus : BitVec 4) : Byte :=
  (if d.nr52On then 0x80 else 0x00) ||| 0x70 ||| audioStatus.setWidth 8

/-- `IoRead` (R92): a hole reads 0xFF (R94). -/
def ioRead (a : Word) (s : State) : Byte :=
  match ioRegister a with
  | .p1 => s.readP1
  | .sb => s.sb
  | .sc => s.sc ||| 0x7E
  | .div => s.timer.div
  | .tima => s.timer.tima
  | .tma => s.timer.tma
  | .tac => s.timer.tac ||| 0xF8
  | .irq => s.irq.req ||| 0xE0
  | .sound r => s.sound.stored r ||| soundMask r
  | .nr52 => s.sound.readNr52 s.params.audioStatus
  | .wave => s.readKey a.toNat
  | .lcdc => s.ppu.lcdc
  | .stat => s.ppu.readStat
  | .scy => s.ppu.scy
  | .scx => s.ppu.scx
  | .ly => s.ppu.ly
  | .lyc => s.ppu.lyc
  | .dma => s.dma.reg
  | .bgp => s.ppu.bgp
  | .obp0 => s.ppu.obp0
  | .obp1 => s.ppu.obp1
  | .wy => s.ppu.wy
  | .wx => s.ppu.wx
  | .hole => 0xFF

/-- `IoWrite` (R93): LY and the holes ignore writes (R94, D46). -/
def ioWrite (a : Word) (v : Byte) (s : State) : State :=
  match ioRegister a with
  | .p1 => { s with p1Select := v &&& 0x30 }
  | .sb => { s with sb := v }
  | .sc => { s with sc := v &&& 0x81 }
  | .div => { s with timer := { s.timer with div := 0 } }
  | .tima => { s with timer := { s.timer with tima := v } }
  | .tma => { s with timer := { s.timer with tma := v } }
  | .tac => { s with timer := { s.timer with tac := v &&& 0x07 } }
  | .irq => { s with irq := { s.irq with req := v &&& 0x1F } }
  | .sound r => { s with sound := s.sound.store r v }
  | .nr52 => { s with sound := { s.sound with nr52On := v.getLsbD 7 } }
  | .wave => s.writeKey a.toNat v
  | .lcdc => { s with ppu := { s.ppu with lcdc := v } }
  | .stat => { s with ppu := { s.ppu with statEnables := v &&& 0x78 } }
  | .scy => { s with ppu := { s.ppu with scy := v } }
  | .scx => { s with ppu := { s.ppu with scx := v } }
  | .ly => s
  | .lyc => { s with ppu := { s.ppu with lyc := v } }
  | .dma => { s with dma := { reg := v, active := true, page := v, remaining := 160 } }
  | .bgp => { s with ppu := { s.ppu with bgp := v } }
  | .obp0 => { s with ppu := { s.ppu with obp0 := v } }
  | .obp1 => { s with ppu := { s.ppu with obp1 := v } }
  | .wy => { s with ppu := { s.ppu with wy := v } }
  | .wx => { s with ppu := { s.ppu with wx := v } }
  | .hole => s

end Sys2Proof.Machine
end

