-- ==== Sys2Proof/Machine/Bus.lean ====
section
/-! DEFINITION. The bus (20_memory.md R80-R91): which device owns an address, `MemRead` and `MemWrite`,
and the keys of the bytes an address stands for. -/

namespace Sys2Proof.Machine

/-- The owners of R80. -/
inductive Owner where
  | rom
  | vram
  | cartRam
  | wram
  | echo
  | oam
  | unusable
  | io
  | hram
  | ie
  deriving DecidableEq, Repr

/-- The one owner of an address (R80). -/
def ownerOf (a : Word) : Owner :=
  if a.toNat < 0x8000 then .rom
  else if a.toNat < 0xA000 then .vram
  else if a.toNat < 0xC000 then .cartRam
  else if a.toNat < 0xE000 then .wram
  else if a.toNat < 0xFE00 then .echo
  else if a.toNat < 0xFEA0 then .oam
  else if a.toNat < 0xFF00 then .unusable
  else if a.toNat < 0xFF80 then .io
  else if a.toNat < 0xFFFF then .hram
  else .ie

/-- The echo's key: the same storage as 0xC000-0xDDFF, byte `a - 0xE000` of work RAM (R85). -/
def echoKey (a : Word) : Nat := 0xC000 + a.toNat % 0x2000

/-- The boot overlay intercepts a read of this address (R95). -/
def State.overlayHit (s : State) (a : Word) : Bool :=
  s.overlayActive && decide (a.toNat ≤ 0x00FF)

/-- `MemRead(a, 1)` (R90). -/
def busRead (a : Word) (s : State) : Byte :=
  if s.overlayHit a then s.readKey a.toNat
  else
    match ownerOf a with
    | .rom => s.readKey (s.cart.romKey a)
    | .vram => s.readKey a.toNat
    | .cartRam => if s.cart.ramAccessible then s.readKey (s.cart.ramKey a) else 0xFF
    | .wram => s.readKey a.toNat
    | .echo => s.readKey (echoKey a)
    | .oam => s.readKey a.toNat
    | .unusable => 0xFF
    | .io => ioRead a s
    | .hram => s.readKey a.toNat
    | .ie => s.irq.en

/-- `MemWrite(a, 1, v)` (R91). The overlay never intercepts it. -/
def busWrite (a : Word) (v : Byte) (s : State) : State :=
  match ownerOf a with
  | .rom => { s with cart := s.cart.control s.params.mbcCZeroRemap a v }
  | .vram => s.writeKey a.toNat v
  | .cartRam => if s.cart.ramAccessible then s.writeKey (s.cart.ramKey a) v else s
  | .wram => s.writeKey a.toNat v
  | .echo => s.writeKey (echoKey a) v
  | .oam => s.writeKey a.toNat v
  | .unusable => s
  | .io => ioWrite a v s
  | .hram => s.writeKey a.toNat v
  | .ie => { s with irq := { s.irq with en := v } }

/-- `MemRead16(a)` (R14, R121): two byte reads, the address wrapping. -/
def busRead16 (a : Word) (s : State) : Word := mkWord (busRead (a + 1) s) (busRead a s)

/-- `MemWrite16(a, v)` (R14): the low byte at `a`, then the high byte at `a + 1`. -/
def busWrite16 (a : Word) (v : Word) (s : State) : State :=
  busWrite (a + 1) (hiByte v) (busWrite a (loByte v) s)

/-- The address is one of the wave RAM bytes (R53). -/
def isWaveRam (a : Word) : Bool := decide (0xFF30 ≤ a.toNat) && decide (a.toNat ≤ 0xFF3F)

/-- The key of the byte a write to the address stores, where the address is plain storage (R124). -/
def storeKey (a : Word) (s : State) : Option Nat :=
  match ownerOf a with
  | .vram | .wram | .oam | .hram => some a.toNat
  | .echo => some (echoKey a)
  | .cartRam => if s.cart.ramAccessible then some (s.cart.ramKey a) else none
  | .io => if isWaveRam a then some a.toNat else none
  | .rom | .unusable | .ie => none

/-- The key of the byte a read of the address returns, where the address shows stored bytes. -/
def loadKey (a : Word) (s : State) : Option Nat :=
  if s.overlayHit a then some a.toNat
  else if ownerOf a = .rom then some (s.cart.romKey a)
  else storeKey a s

end Sys2Proof.Machine
end

