-- ==== Sys2Proof/Machine/Flags.lean ====
section
/-! DEFINITION. Every result and flag computation of the instruction set (43_alu8.md, 44_alu16.md,
45_rotate_shift_bit.md, 42_load16_stack.md R207). -/

namespace Sys2Proof.Machine

/-- The four flags (R24). -/
structure Flags where
  z : Bool
  n : Bool
  h : Bool
  c : Bool
  deriving DecidableEq, Repr

/-- A flag bit as a number. -/
def carryNat (c : Bool) : Nat := if c then 1 else 0

/-- The byte of F that holds the flags: Z, N, H and C in bits 7 to 4, zeros below (R24). -/
def Flags.toByte (f : Flags) : Byte :=
  BitVec.ofBool f.z ++ BitVec.ofBool f.n ++ BitVec.ofBool f.h ++ BitVec.ofBool f.c ++ 0#4

/-- The flags that a byte of F holds (R24). -/
def Flags.ofByte (v : Byte) : Flags where
  z := v.getLsbD 7
  n := v.getLsbD 6
  h := v.getLsbD 5
  c := v.getLsbD 4

/-- `Add8` (R220). -/
def add8 (a b : Byte) (c : Bool) : Byte × Flags :=
  let t := a.toNat + b.toNat + carryNat c
  let res := BitVec.ofNat 8 t
  (res,
    { z := decide (res = 0)
      n := false
      h := decide (a.toNat % 16 + b.toNat % 16 + carryNat c > 0x0F)
      c := decide (t > 0xFF) })

/-- `Sub8` (R220). -/
def sub8 (a b : Byte) (c : Bool) : Byte × Flags :=
  let t : Int := a.toNat - b.toNat - carryNat c
  let res := BitVec.ofInt 8 t
  (res,
    { z := decide (res = 0)
      n := true
      h := decide (a.toNat % 16 < b.toNat % 16 + carryNat c)
      c := decide (a.toNat < b.toNat + carryNat c) })

/-- The result and the flags of a logic operation; AND alone sets H (R229, R231, R233). -/
def logic8 (res : Byte) (h : Bool) : Byte × Flags :=
  (res, { z := decide (res = 0), n := false, h := h, c := false })

/-- The two-operand operations on A (R221-R236): `a` is A, `b` the source, `c` the carry flag. CP keeps
A (R235). -/
def aluApply (op : AluOp) (a b : Byte) (c : Bool) : Byte × Flags :=
  match op with
  | .add => add8 a b false
  | .adc => add8 a b c
  | .sub => sub8 a b false
  | .sbc => sub8 a b c
  | .and => logic8 (a &&& b) true
  | .xor => logic8 (a ^^^ b) false
  | .or => logic8 (a ||| b) false
  | .cp => (a, (sub8 a b false).2)

/-- INC of a byte (R237); C is kept. -/
def inc8 (v : Byte) (f : Flags) : Byte × Flags :=
  let res := v + 1
  (res, { z := decide (res = 0), n := false, h := decide (v &&& 0x0F = 0x0F), c := f.c })

/-- DEC of a byte (R239); C is kept. -/
def dec8 (v : Byte) (f : Flags) : Byte × Flags :=
  let res := v - 1
  (res, { z := decide (res = 0), n := true, h := decide (v &&& 0x0F = 0x00), c := f.c })

/-- DAA (R241): `a` is A, `f` the flags before. -/
def daa8 (a : Byte) (f : Flags) : Byte × Flags :=
  if f.n = false then
    let high := f.c || decide (a.toNat > 0x99)
    let low := f.h || decide (a.toNat % 16 > 0x09)
    let adj : Byte := (if high then 0x60 else 0x00) ||| (if low then 0x06 else 0x00)
    let r := a + adj
    (r, { z := decide (r = 0), n := f.n, h := false, c := high })
  else
    let adj : Byte := (if f.c then 0x60 else 0x00) ||| (if f.h then 0x06 else 0x00)
    let r := a - adj
    (r, { z := decide (r = 0), n := f.n, h := false, c := f.c })

/-- The sum and flags of ADD HL,rr (R260): carries out of bits 11 and 15, Z kept. -/
def addHL16 (a b : Word) (f : Flags) : Word × Flags :=
  (BitVec.ofNat 16 (a.toNat + b.toNat),
    { z := f.z
      n := false
      h := decide (a.toNat % 0x1000 + b.toNat % 0x1000 > 0x0FFF)
      c := decide (a.toNat + b.toNat > 0xFFFF) })

/-- The sum and flags of ADD SP,e8 and LD HL,SP+e8 (R207, R263): the carries are those of the unsigned
low-byte sum. -/
def addSPe8 (sp : Word) (u : Byte) : Word × Flags :=
  (sp + u.signExtend 16,
    { z := false
      n := false
      h := decide (sp.toNat % 16 + u.toNat % 16 > 0x0F)
      c := decide (sp.toNat % 256 + u.toNat > 0xFF) })

/-- The operations of the CB block x = 0 (R275-R282): the result and the carry out; `c` is F.C. -/
def rotApply (op : RotOp) (v : Byte) (c : Bool) : Byte × Bool :=
  match op with
  | .rlc => ((v <<< 1) ||| (BitVec.ofBool (v.getLsbD 7)).setWidth 8, v.getLsbD 7)
  | .rrc => ((v >>> 1) ||| ((BitVec.ofBool (v.getLsbD 0)).setWidth 8 <<< 7), v.getLsbD 0)
  | .rl => ((v <<< 1) ||| (BitVec.ofBool c).setWidth 8, v.getLsbD 7)
  | .rr => ((v >>> 1) ||| ((BitVec.ofBool c).setWidth 8 <<< 7), v.getLsbD 0)
  | .sla => (v <<< 1, v.getLsbD 7)
  | .sra => ((v >>> 1) ||| (v &&& 0x80), v.getLsbD 0)
  | .swap => (((v &&& 0x0F) <<< 4) ||| (v >>> 4), false)
  | .srl => (v >>> 1, v.getLsbD 0)

/-- The flags of a prefixed rotate or shift (R274). -/
def rotFlags (res : Byte) (c : Bool) : Flags :=
  { z := decide (res = 0), n := false, h := false, c := c }

/-- The flags of an accumulator rotate: Z is 0 whatever the result (R270-R273). -/
def rotAFlags (c : Bool) : Flags := { z := false, n := false, h := false, c := c }

/-- The flags of BIT (R283); C is kept. -/
def bitFlags (bit : Bool) (f : Flags) : Flags := { z := !bit, n := false, h := true, c := f.c }

end Sys2Proof.Machine
end

