-- ==== Sys2Proof/Machine/Ops.lean ====
section
/-! DEFINITION. The named operations over registers and memory that the meanings share: registers and
pairs (10_state.md R20-R25), ending an instruction (R23), the stack (42_load16_stack.md R200-R201),
taking an interrupt (60_exceptions.md R410-R413) and returning from one (46_control.md R309). -/

namespace Sys2Proof.Machine

/-- What a meaning answers. -/
abbrev Result := Host.Outcome State Fault Refusal

/-! ## Registers -/

/-- `x[BC]` (R21). -/
def State.bc (s : State) : Word := mkWord s.cpu.b s.cpu.c

/-- `x[DE]` (R21). -/
def State.de (s : State) : Word := mkWord s.cpu.d s.cpu.e

/-- `x[HL]` (R21). -/
def State.hl (s : State) : Word := mkWord s.cpu.h s.cpu.l

/-- `x[AF]` (R21). -/
def State.af (s : State) : Word := mkWord s.cpu.a s.cpu.f

/-- `x[A] <- v`. -/
def State.setA (s : State) (v : Byte) : State := { s with cpu := { s.cpu with a := v } }

/-- `x[BC] <- v` (R21). -/
def State.setBC (s : State) (v : Word) : State :=
  { s with cpu := { s.cpu with b := hiByte v, c := loByte v } }

/-- `x[DE] <- v` (R21). -/
def State.setDE (s : State) (v : Word) : State :=
  { s with cpu := { s.cpu with d := hiByte v, e := loByte v } }

/-- `x[HL] <- v` (R21). -/
def State.setHL (s : State) (v : Word) : State :=
  { s with cpu := { s.cpu with h := hiByte v, l := loByte v } }

/-- Every write to F: the low nibble is dropped (R25). -/
def State.setF (s : State) (v : Byte) : State :=
  { s with cpu := { s.cpu with f := v &&& 0xF0 } }

/-- `x[AF] <- v` (R21, R25). -/
def State.setAF (s : State) (v : Word) : State := (s.setA (hiByte v)).setF (loByte v)

/-- `SP <- v`. -/
def State.setSP (s : State) (v : Word) : State := { s with cpu := { s.cpu with sp := v } }

/-- `pc <- v`. -/
def State.setPC (s : State) (v : Word) : State := { s with cpu := { s.cpu with pc := v } }

/-- `IME <- b`. -/
def State.setIME (s : State) (b : Bool) : State := { s with cpu := { s.cpu with ime := b } }

/-- `ei_pending <- b`. -/
def State.setEiPending (s : State) (b : Bool) : State :=
  { s with cpu := { s.cpu with eiPending := b } }

/-- `halt_bug_pending <- b`. -/
def State.setHaltBugPending (s : State) (b : Bool) : State :=
  { s with cpu := { s.cpu with haltBugPending := b } }

/-- `run_state <- r`. -/
def State.setRunState (s : State) (r : RunState) : State :=
  { s with cpu := { s.cpu with runState := r } }

/-- The flags (R24). -/
def State.flags (s : State) : Flags := Flags.ofByte s.cpu.f

/-- Write all four flags (R25). -/
def State.setFlags (s : State) (f : Flags) : State := s.setF f.toByte

/-- A condition (R145). -/
def condHolds (cc : Cond) (s : State) : Bool :=
  match cc with
  | .NZ => !s.flags.z
  | .Z => s.flags.z
  | .NC => !s.flags.c
  | .C => s.flags.c

/-! ## Ending an instruction -/

/-- `pc_next` of an instruction of `len` bytes (R23); after a replayed HALT it is one less (R407). -/
def State.pcNext (s : State) (len : Nat) : Word :=
  if s.cpu.haltBugPending then s.cpu.pc + BitVec.ofNat 16 len - 1
  else s.cpu.pc + BitVec.ofNat 16 len

/-- The address of the instruction's byte `k`, `k = 0` its opcode (R404); after a replayed HALT the
bytes after the opcode come one earlier (R407). -/
def State.fetchAddr (s : State) (k : Nat) : Word :=
  if s.cpu.haltBugPending ∧ 0 < k then s.cpu.pc + BitVec.ofNat 16 k - 1
  else s.cpu.pc + BitVec.ofNat 16 k

/-- The cost `CYCLES` gives an unprefixed instruction (R530); a conditional one, when taken. -/
def State.opCost (s : State) (opcode : Byte) : Nat := s.params.cycles.op[opcode.toNat]'opcode.isLt

/-- The cost `CYCLES` gives a conditional instruction when not taken (R530). -/
def State.notTakenCost (s : State) (opcode : Byte) : Nat :=
  s.params.cycles.notTaken[opcode.toNat]'opcode.isLt

/-- The cost `CYCLES` gives a CB instruction, by its second byte (R530). -/
def State.cbCost (s : State) (op2 : Byte) : Nat := s.params.cycles.cb[op2.toNat]'op2.isLt

/-- The state with another `CYCLES`, for what does not depend on it (R531). -/
def State.withCycles (s : State) (c : CycleTable) : State :=
  { s with params := { s.params with cycles := c } }

/-- End an instruction: the PC it leaves, its cost, and the fetch of R407 consumed. -/
def State.retire (s : State) (pc : Word) (cost : Nat) : State :=
  { s with cpu := { s.cpu with pc := pc, haltBugPending := false }, cycles := cost }

/-- End an instruction of `len` bytes that goes on to the next one: `pc <- pc_next`. -/
def State.advance (s : State) (len cost : Nat) : State := s.retire (s.pcNext len) cost

/-! ## The stack -/

/-- `Push16` (R200): the high byte first, at the higher address. -/
def push16 (v : Word) (s : State) : State :=
  let s := s.setSP (s.cpu.sp - 1)
  let s := busWrite s.cpu.sp (hiByte v) s
  let s := s.setSP (s.cpu.sp - 1)
  busWrite s.cpu.sp (loByte v) s

/-- The word `Pop16` returns (R201). -/
def pop16Value (s : State) : Word := busRead16 s.cpu.sp s

/-- The state `Pop16` leaves (R201): a read changes nothing but SP. -/
def pop16 (s : State) : State := s.setSP (s.cpu.sp + 2)

/-! ## Interrupts -/

/-- `IF & IE & 0x1F` (R410). -/
def State.pendingBits (s : State) : Byte := s.irq.req &&& s.irq.en &&& 0x1F

/-- An interrupt is pending (R410). -/
def State.pending (s : State) : Bool := decide (s.pendingBits ≠ 0)

/-- The lowest set bit of a pending set (R411); 4 if no bit below 4 is set. -/
def lowestBit (v : Byte) : Nat :=
  if v.getLsbD 0 then 0
  else if v.getLsbD 1 then 1
  else if v.getLsbD 2 then 2
  else if v.getLsbD 3 then 3
  else 4

/-- The vector of a source (R413). -/
def vector (i : Nat) : Word := BitVec.ofNat 16 (0x40 + 8 * i)

/-- `IF[i] <- 1` (R15). -/
def State.raiseIF (s : State) (i : Nat) : State :=
  { s with irq := { s.irq with req := s.irq.req ||| ((1 : Byte) <<< i) } }

/-- `IF[i] <- 0`. -/
def State.clearIF (s : State) (i : Nat) : State :=
  { s with irq := { s.irq with req := s.irq.req &&& ~~~((1 : Byte) <<< i) } }

/-- `Service` (R412): the source is chosen before any write. -/
def service (s : State) : State :=
  let i := lowestBit s.pendingBits
  let s := s.clearIF i
  let s := s.setIME false
  let s := push16 s.cpu.pc s
  s.setPC (vector i)

/-- The return from an interrupt (R309): `pc <- Pop16(); IME <- 1`, at the cost of RETI. -/
def returnFromInterrupt (s : State) (cost : Nat) : State :=
  ((pop16 s).setIME true).retire (pop16Value s) cost

end Sys2Proof.Machine
end

