-- ==== Sys2Proof/Machine/Clock.lean ====
section
/-! DEFINITION. The divider, the programmable timer and OAM DMA, each advanced by the cycles of the CPU
step (60_exceptions.md R430-R436). The rules' `while` loops subtract one period at a time; here the number
of periods is the quotient (notes/assumptions/17.md). -/

namespace Sys2Proof.Machine

/-- The divider (R430): one increment every 256 cycles, whatever TAC is. -/
def dividerStep (c : Nat) (s : State) : State :=
  { s with timer := { s.timer with
      div := s.timer.div + BitVec.ofNat 8 ((s.timer.divAcc + c) / 256)
      divAcc := (s.timer.divAcc + c) % 256 } }

/-- The period TAC selects (R431). -/
def timerPeriod (tac : Byte) : Nat :=
  match tac.toNat % 4 with
  | 0 => 1024
  | 1 => 16
  | 2 => 64
  | _ => 256

/-- TIMA is enabled, `TAC[2] = 1` (R431). -/
def Timer.running (t : Timer) : Bool := t.tac.getLsbD 2

/-- One increment of TIMA (R431): on overflow the reload and the request come in the same step. -/
def timaTick (s : State) : State :=
  if s.timer.tima = 0xFF then
    ({ s with timer := { s.timer with tima := s.timer.tma } }).raiseIF 2
  else { s with timer := { s.timer with tima := s.timer.tima + 1 } }

/-- `n` increments of TIMA. -/
def timaTicks : Nat → State → State
  | 0, s => s
  | n + 1, s => timaTicks n (timaTick s)

/-- The programmable timer (R431, R432): held while it is not enabled. -/
def timaStep (c : Nat) (s : State) : State :=
  if s.timer.running then
    let total := s.timer.timaAcc + c
    let period := timerPeriod s.timer.tac
    let s := { s with timer := { s.timer with timaAcc := total % period } }
    timaTicks (total / period) s
  else s

/-- `TimerStep(c)` (R401). -/
def timerStep (c : Nat) (s : State) : State := timaStep c (dividerStep c s)

/-- The bus address the copy reads OAM byte `i` from (R436). -/
def dmaSource (page : Byte) (i : Nat) : Word := mkWord page (BitVec.ofNat 8 i)

/-- The key of OAM byte `i` (R55). -/
def oamKey (i : Nat) : Nat := 0xFE00 + i

/-- The copy of OAM bytes `i` to `i + n - 1`, in order, through the bus (R436). -/
def dmaCopy (page : Byte) : Nat → Nat → State → State
  | _, 0, s => s
  | i, n + 1, s => dmaCopy page (i + 1) n (s.writeKey (oamKey i) (busRead (dmaSource page i) s))

/-- `DmaStep(c)` (R436): when the countdown ends, all 160 bytes are copied at once. -/
def dmaStep (c : Nat) (s : State) : State :=
  if s.dma.active then
    let s := { s with dma := { s.dma with remaining := s.dma.remaining - c } }
    if s.dma.remaining = 0 then
      let s := dmaCopy s.dma.page 0 160 s
      { s with dma := { s.dma with active := false } }
    else s
  else s

end Sys2Proof.Machine
end

