-- ==== Sys2Proof/Machine/Operands.lean ====
section
/-! DEFINITION. Every operand form: reading and writing the operand fields of 30_encoding.md (R142-R147). -/

namespace Sys2Proof.Machine

/-- `Get8` (R142): code 6 reads the memory byte at HL. -/
def get8 (r : R8) (s : State) : Byte :=
  match r with
  | .B => s.cpu.b
  | .C => s.cpu.c
  | .D => s.cpu.d
  | .E => s.cpu.e
  | .H => s.cpu.h
  | .L => s.cpu.l
  | .mHL => busRead s.hl s
  | .A => s.cpu.a

/-- `Set8` (R142): code 6 writes the memory byte at HL. -/
def set8 (r : R8) (v : Byte) (s : State) : State :=
  match r with
  | .B => { s with cpu := { s.cpu with b := v } }
  | .C => { s with cpu := { s.cpu with c := v } }
  | .D => { s with cpu := { s.cpu with d := v } }
  | .E => { s with cpu := { s.cpu with e := v } }
  | .H => { s with cpu := { s.cpu with h := v } }
  | .L => { s with cpu := { s.cpu with l := v } }
  | .mHL => busWrite s.hl v s
  | .A => s.setA v

/-- Read an `r16` operand (R143). -/
def get16 (rr : R16) (s : State) : Word :=
  match rr with
  | .BC => s.bc
  | .DE => s.de
  | .HL => s.hl
  | .SP => s.cpu.sp

/-- Write an `r16` operand (R143). -/
def set16 (rr : R16) (v : Word) (s : State) : State :=
  match rr with
  | .BC => s.setBC v
  | .DE => s.setDE v
  | .HL => s.setHL v
  | .SP => s.setSP v

/-- Read an `r16stk` operand (R144). -/
def getStk (rr : R16Stk) (s : State) : Word :=
  match rr with
  | .BC => s.bc
  | .DE => s.de
  | .HL => s.hl
  | .AF => s.af

/-- Write an `r16stk` operand (R144, R206). -/
def setStk (rr : R16Stk) (v : Word) (s : State) : State :=
  match rr with
  | .BC => s.setBC v
  | .DE => s.setDE v
  | .HL => s.setHL v
  | .AF => s.setAF v

/-- The address of an `r16mem` operand (R146). -/
def memAddr (m : R16Mem) (s : State) : Word :=
  match m with
  | .BC => s.bc
  | .DE => s.de
  | .HLi => s.hl
  | .HLd => s.hl

/-- What an `r16mem` operand does to HL after the access (R146). -/
def memPost (m : R16Mem) (s : State) : State :=
  match m with
  | .BC => s
  | .DE => s
  | .HLi => s.setHL (s.hl + 1)
  | .HLd => s.setHL (s.hl - 1)

/-- The address of a high-page operand, `0xFF00 + n` (R147). -/
def highPage (n : Byte) : Word := 0xFF00 + n.setWidth 16

/-- The target of a relative jump: `pc_next + sext_16(e8)` (R147, R303). -/
def relTarget (pcNext : Word) (e : Byte) : Word := pcNext + e.signExtend 16

/-- The RST target `8 * y` (R147, R310). -/
def rstTarget (t : U3) : Word := BitVec.ofNat 16 (8 * t.code)

end Sys2Proof.Machine
end

