-- ==== Sys2Proof/Machine/Alu16.lean ====
section
/-! DEFINITION. The 16-bit arithmetic (44_alu16.md R260-R263). -/

namespace Sys2Proof.Machine

/-- `ADD HL,rr` (R260). -/
def addHL (rr : R16) (s : State) : State :=
  let r := addHL16 s.hl (get16 rr s) s.flags
  ((s.setHL r.1).setFlags r.2).advance 1 (s.opCost (opcodeByte 0 (2 * rr.code + 1) 1))

/-- `INC rr` (R261). -/
def incR16 (rr : R16) (s : State) : State :=
  (set16 rr (get16 rr s + 1) s).advance 1 (s.opCost (opcodeByte 0 (2 * rr.code) 3))

/-- `DEC rr` (R262). -/
def decR16 (rr : R16) (s : State) : State :=
  (set16 rr (get16 rr s - 1) s).advance 1 (s.opCost (opcodeByte 0 (2 * rr.code + 1) 3))

/-- `ADD SP,e8` (R263). -/
def addSP (e : Byte) (s : State) : State :=
  let r := addSPe8 s.cpu.sp e
  ((s.setSP r.1).setFlags r.2).advance 2 (s.opCost 0xE8)

/-! ## The meanings -/

/-- `INC BC` (R261). -/
def execInc_BC (s : State) : Result := .next (incR16 .BC s)

/-- `ADD HL,BC` (R260). -/
def execAdd_HL_BC (s : State) : Result := .next (addHL .BC s)

/-- `DEC BC` (R262). -/
def execDec_BC (s : State) : Result := .next (decR16 .BC s)

/-- `INC DE` (R261). -/
def execInc_DE (s : State) : Result := .next (incR16 .DE s)

/-- `ADD HL,DE` (R260). -/
def execAdd_HL_DE (s : State) : Result := .next (addHL .DE s)

/-- `DEC DE` (R262). -/
def execDec_DE (s : State) : Result := .next (decR16 .DE s)

/-- `INC HL` (R261). -/
def execInc_HL (s : State) : Result := .next (incR16 .HL s)

/-- `ADD HL,HL` (R260). -/
def execAdd_HL_HL (s : State) : Result := .next (addHL .HL s)

/-- `DEC HL` (R262). -/
def execDec_HL (s : State) : Result := .next (decR16 .HL s)

/-- `INC SP` (R261). -/
def execInc_SP (s : State) : Result := .next (incR16 .SP s)

/-- `ADD HL,SP` (R260). -/
def execAdd_HL_SP (s : State) : Result := .next (addHL .SP s)

/-- `DEC SP` (R262). -/
def execDec_SP (s : State) : Result := .next (decR16 .SP s)

/-- `ADD SP,e8` (R263). -/
def execAdd_SP_e8 (e : Byte) (s : State) : Result := .next (addSP e s)

end Sys2Proof.Machine
end

