-- ==== Sys2Proof/Machine/Alu8.lean ====
section
/-! DEFINITION. The 8-bit arithmetic and logic instructions (43_alu8.md R221-R244). -/

namespace Sys2Proof.Machine

/-- A two-operand operation on A and a byte: A and the flags take its result. -/
def aluByte (op : AluOp) (b : Byte) (s : State) : State :=
  let r := aluApply op s.cpu.a b s.flags.c
  (s.setA r.1).setFlags r.2

/-- `alu A,r8` (R221, R223, R225, R227, R229, R231, R233, R235). -/
def aluR8 (op : AluOp) (r : R8) (s : State) : State :=
  (aluByte op (get8 r s) s).advance 1 (s.opCost (opcodeByte 2 op.code r.code))

/-- `alu A,n8` (R222, R224, R226, R228, R230, R232, R234, R236). -/
def aluN8 (op : AluOp) (n : Byte) (s : State) : State :=
  (aluByte op n s).advance 2 (s.opCost (opcodeByte 3 op.code 6))

/-- `INC r8` (R237, R238). -/
def incR8 (r : R8) (s : State) : State :=
  let v := inc8 (get8 r s) s.flags
  ((set8 r v.1 s).setFlags v.2).advance 1 (s.opCost (opcodeByte 0 r.code 4))

/-- `DEC r8` (R239, R240). -/
def decR8 (r : R8) (s : State) : State :=
  let v := dec8 (get8 r s) s.flags
  ((set8 r v.1 s).setFlags v.2).advance 1 (s.opCost (opcodeByte 0 r.code 5))

/-- `DAA` (R241). -/
def decimalAdjust (s : State) : State :=
  let r := daa8 s.cpu.a s.flags
  ((s.setA r.1).setFlags r.2).advance 1 (s.opCost 0x27)

/-- `CPL` (R242). -/
def complementA (s : State) : State :=
  ((s.setA (s.cpu.a ^^^ 0xFF)).setFlags { s.flags with n := true, h := true }).advance 1 (s.opCost 0x2F)

/-- `SCF` (R243). -/
def setCarry (s : State) : State :=
  (s.setFlags { s.flags with n := false, h := false, c := true }).advance 1 (s.opCost 0x37)

/-- `CCF` (R244). -/
def complementCarry (s : State) : State :=
  (s.setFlags { s.flags with n := false, h := false, c := !s.flags.c }).advance 1 (s.opCost 0x3F)

/-! ## The meanings -/

/-- `INC B` (R237). -/
def execInc_B (s : State) : Result := .next (incR8 .B s)

/-- `DEC B` (R239). -/
def execDec_B (s : State) : Result := .next (decR8 .B s)

/-- `INC C` (R237). -/
def execInc_C (s : State) : Result := .next (incR8 .C s)

/-- `DEC C` (R239). -/
def execDec_C (s : State) : Result := .next (decR8 .C s)

/-- `INC D` (R237). -/
def execInc_D (s : State) : Result := .next (incR8 .D s)

/-- `DEC D` (R239). -/
def execDec_D (s : State) : Result := .next (decR8 .D s)

/-- `INC E` (R237). -/
def execInc_E (s : State) : Result := .next (incR8 .E s)

/-- `DEC E` (R239). -/
def execDec_E (s : State) : Result := .next (decR8 .E s)

/-- `INC H` (R237). -/
def execInc_H (s : State) : Result := .next (incR8 .H s)

/-- `DEC H` (R239). -/
def execDec_H (s : State) : Result := .next (decR8 .H s)

/-- `DAA` (R241). -/
def execDaa (s : State) : Result := .next (decimalAdjust s)

/-- `INC L` (R237). -/
def execInc_L (s : State) : Result := .next (incR8 .L s)

/-- `DEC L` (R239). -/
def execDec_L (s : State) : Result := .next (decR8 .L s)

/-- `CPL` (R242). -/
def execCpl (s : State) : Result := .next (complementA s)

/-- `INC (HL)` (R238). -/
def execInc_mHL (s : State) : Result := .next (incR8 .mHL s)

/-- `DEC (HL)` (R240). -/
def execDec_mHL (s : State) : Result := .next (decR8 .mHL s)

/-- `SCF` (R243). -/
def execScf (s : State) : Result := .next (setCarry s)

/-- `INC A` (R237). -/
def execInc_A (s : State) : Result := .next (incR8 .A s)

/-- `DEC A` (R239). -/
def execDec_A (s : State) : Result := .next (decR8 .A s)

/-- `CCF` (R244). -/
def execCcf (s : State) : Result := .next (complementCarry s)

/-- `ADD A,B` (R221). -/
def execAdd_A_B (s : State) : Result := .next (aluR8 .add .B s)

/-- `ADD A,C` (R221). -/
def execAdd_A_C (s : State) : Result := .next (aluR8 .add .C s)

/-- `ADD A,D` (R221). -/
def execAdd_A_D (s : State) : Result := .next (aluR8 .add .D s)

/-- `ADD A,E` (R221). -/
def execAdd_A_E (s : State) : Result := .next (aluR8 .add .E s)

/-- `ADD A,H` (R221). -/
def execAdd_A_H (s : State) : Result := .next (aluR8 .add .H s)

/-- `ADD A,L` (R221). -/
def execAdd_A_L (s : State) : Result := .next (aluR8 .add .L s)

/-- `ADD A,(HL)` (R221). -/
def execAdd_A_mHL (s : State) : Result := .next (aluR8 .add .mHL s)

/-- `ADD A,A` (R221). -/
def execAdd_A_A (s : State) : Result := .next (aluR8 .add .A s)

/-- `ADC A,B` (R223). -/
def execAdc_A_B (s : State) : Result := .next (aluR8 .adc .B s)

/-- `ADC A,C` (R223). -/
def execAdc_A_C (s : State) : Result := .next (aluR8 .adc .C s)

/-- `ADC A,D` (R223). -/
def execAdc_A_D (s : State) : Result := .next (aluR8 .adc .D s)

/-- `ADC A,E` (R223). -/
def execAdc_A_E (s : State) : Result := .next (aluR8 .adc .E s)

/-- `ADC A,H` (R223). -/
def execAdc_A_H (s : State) : Result := .next (aluR8 .adc .H s)

/-- `ADC A,L` (R223). -/
def execAdc_A_L (s : State) : Result := .next (aluR8 .adc .L s)

/-- `ADC A,(HL)` (R223). -/
def execAdc_A_mHL (s : State) : Result := .next (aluR8 .adc .mHL s)

/-- `ADC A,A` (R223). -/
def execAdc_A_A (s : State) : Result := .next (aluR8 .adc .A s)

/-- `SUB B` (R225). -/
def execSub_B (s : State) : Result := .next (aluR8 .sub .B s)

/-- `SUB C` (R225). -/
def execSub_C (s : State) : Result := .next (aluR8 .sub .C s)

/-- `SUB D` (R225). -/
def execSub_D (s : State) : Result := .next (aluR8 .sub .D s)

/-- `SUB E` (R225). -/
def execSub_E (s : State) : Result := .next (aluR8 .sub .E s)

/-- `SUB H` (R225). -/
def execSub_H (s : State) : Result := .next (aluR8 .sub .H s)

/-- `SUB L` (R225). -/
def execSub_L (s : State) : Result := .next (aluR8 .sub .L s)

/-- `SUB (HL)` (R225). -/
def execSub_mHL (s : State) : Result := .next (aluR8 .sub .mHL s)

/-- `SUB A` (R225). -/
def execSub_A (s : State) : Result := .next (aluR8 .sub .A s)

/-- `SBC A,B` (R227). -/
def execSbc_A_B (s : State) : Result := .next (aluR8 .sbc .B s)

/-- `SBC A,C` (R227). -/
def execSbc_A_C (s : State) : Result := .next (aluR8 .sbc .C s)

/-- `SBC A,D` (R227). -/
def execSbc_A_D (s : State) : Result := .next (aluR8 .sbc .D s)

/-- `SBC A,E` (R227). -/
def execSbc_A_E (s : State) : Result := .next (aluR8 .sbc .E s)

/-- `SBC A,H` (R227). -/
def execSbc_A_H (s : State) : Result := .next (aluR8 .sbc .H s)

/-- `SBC A,L` (R227). -/
def execSbc_A_L (s : State) : Result := .next (aluR8 .sbc .L s)

/-- `SBC A,(HL)` (R227). -/
def execSbc_A_mHL (s : State) : Result := .next (aluR8 .sbc .mHL s)

/-- `SBC A,A` (R227). -/
def execSbc_A_A (s : State) : Result := .next (aluR8 .sbc .A s)

/-- `AND B` (R229). -/
def execAnd_B (s : State) : Result := .next (aluR8 .and .B s)

/-- `AND C` (R229). -/
def execAnd_C (s : State) : Result := .next (aluR8 .and .C s)

/-- `AND D` (R229). -/
def execAnd_D (s : State) : Result := .next (aluR8 .and .D s)

/-- `AND E` (R229). -/
def execAnd_E (s : State) : Result := .next (aluR8 .and .E s)

/-- `AND H` (R229). -/
def execAnd_H (s : State) : Result := .next (aluR8 .and .H s)

/-- `AND L` (R229). -/
def execAnd_L (s : State) : Result := .next (aluR8 .and .L s)

/-- `AND (HL)` (R229). -/
def execAnd_mHL (s : State) : Result := .next (aluR8 .and .mHL s)

/-- `AND A` (R229). -/
def execAnd_A (s : State) : Result := .next (aluR8 .and .A s)

/-- `XOR B` (R231). -/
def execXor_B (s : State) : Result := .next (aluR8 .xor .B s)

/-- `XOR C` (R231). -/
def execXor_C (s : State) : Result := .next (aluR8 .xor .C s)

/-- `XOR D` (R231). -/
def execXor_D (s : State) : Result := .next (aluR8 .xor .D s)

/-- `XOR E` (R231). -/
def execXor_E (s : State) : Result := .next (aluR8 .xor .E s)

/-- `XOR H` (R231). -/
def execXor_H (s : State) : Result := .next (aluR8 .xor .H s)

/-- `XOR L` (R231). -/
def execXor_L (s : State) : Result := .next (aluR8 .xor .L s)

/-- `XOR (HL)` (R231). -/
def execXor_mHL (s : State) : Result := .next (aluR8 .xor .mHL s)

/-- `XOR A` (R231). -/
def execXor_A (s : State) : Result := .next (aluR8 .xor .A s)

/-- `OR B` (R233). -/
def execOr_B (s : State) : Result := .next (aluR8 .or .B s)

/-- `OR C` (R233). -/
def execOr_C (s : State) : Result := .next (aluR8 .or .C s)

/-- `OR D` (R233). -/
def execOr_D (s : State) : Result := .next (aluR8 .or .D s)

/-- `OR E` (R233). -/
def execOr_E (s : State) : Result := .next (aluR8 .or .E s)

/-- `OR H` (R233). -/
def execOr_H (s : State) : Result := .next (aluR8 .or .H s)

/-- `OR L` (R233). -/
def execOr_L (s : State) : Result := .next (aluR8 .or .L s)

/-- `OR (HL)` (R233). -/
def execOr_mHL (s : State) : Result := .next (aluR8 .or .mHL s)

/-- `OR A` (R233). -/
def execOr_A (s : State) : Result := .next (aluR8 .or .A s)

/-- `CP B` (R235). -/
def execCp_B (s : State) : Result := .next (aluR8 .cp .B s)

/-- `CP C` (R235). -/
def execCp_C (s : State) : Result := .next (aluR8 .cp .C s)

/-- `CP D` (R235). -/
def execCp_D (s : State) : Result := .next (aluR8 .cp .D s)

/-- `CP E` (R235). -/
def execCp_E (s : State) : Result := .next (aluR8 .cp .E s)

/-- `CP H` (R235). -/
def execCp_H (s : State) : Result := .next (aluR8 .cp .H s)

/-- `CP L` (R235). -/
def execCp_L (s : State) : Result := .next (aluR8 .cp .L s)

/-- `CP (HL)` (R235). -/
def execCp_mHL (s : State) : Result := .next (aluR8 .cp .mHL s)

/-- `CP A` (R235). -/
def execCp_A (s : State) : Result := .next (aluR8 .cp .A s)

/-- `ADD A,n8` (R222). -/
def execAdd_A_n8 (n : Byte) (s : State) : Result := .next (aluN8 .add n s)

/-- `ADC A,n8` (R224). -/
def execAdc_A_n8 (n : Byte) (s : State) : Result := .next (aluN8 .adc n s)

/-- `SUB n8` (R226). -/
def execSub_n8 (n : Byte) (s : State) : Result := .next (aluN8 .sub n s)

/-- `SBC A,n8` (R228). -/
def execSbc_A_n8 (n : Byte) (s : State) : Result := .next (aluN8 .sbc n s)

/-- `AND n8` (R230). -/
def execAnd_n8 (n : Byte) (s : State) : Result := .next (aluN8 .and n s)

/-- `XOR n8` (R232). -/
def execXor_n8 (n : Byte) (s : State) : Result := .next (aluN8 .xor n s)

/-- `OR n8` (R234). -/
def execOr_n8 (n : Byte) (s : State) : Result := .next (aluN8 .or n s)

/-- `CP n8` (R236). -/
def execCp_n8 (n : Byte) (s : State) : Result := .next (aluN8 .cp n s)

end Sys2Proof.Machine
end

