-- ==== Sys2Proof/Machine/Control.lean ====
section
/-! DEFINITION. Control transfer (46_control.md R300-R310). None writes F. -/

namespace Sys2Proof.Machine

/-- `JP a16` (R300). -/
def jump (a : Word) (s : State) : State := s.retire a (s.opCost 0xC3)

/-- `JP cc,a16` (R301). -/
def jumpIf (cc : Cond) (a : Word) (s : State) : State :=
  let o := opcodeByte 3 cc.code 2
  if condHolds cc s then s.retire a (s.opCost o) else s.advance 3 (s.notTakenCost o)

/-- `JP HL` (R302). -/
def jumpHL (s : State) : State := s.retire s.hl (s.opCost 0xE9)

/-- `JR e8` (R303). -/
def jumpRel (e : Byte) (s : State) : State := s.retire (relTarget (s.pcNext 2) e) (s.opCost 0x18)

/-- `JR cc,e8` (R304). -/
def jumpRelIf (cc : Cond) (e : Byte) (s : State) : State :=
  let o := opcodeByte 0 (4 + cc.code) 0
  if condHolds cc s then s.retire (relTarget (s.pcNext 2) e) (s.opCost o)
  else s.advance 2 (s.notTakenCost o)

/-- A call of an address by an instruction of three bytes (R305, R306). -/
def callTo (opcode : Byte) (a : Word) (s : State) : State :=
  (push16 (s.pcNext 3) s).retire a (s.opCost opcode)

/-- `CALL a16` (R305). -/
def call (a : Word) (s : State) : State := callTo 0xCD a s

/-- `CALL cc,a16` (R306). -/
def callIf (cc : Cond) (a : Word) (s : State) : State :=
  let o := opcodeByte 3 cc.code 4
  if condHolds cc s then callTo o a s else s.advance 3 (s.notTakenCost o)

/-- A return to the popped address (R307, R308). -/
def retBy (opcode : Byte) (s : State) : State := (pop16 s).retire (pop16Value s) (s.opCost opcode)

/-- `RET` (R307). -/
def ret (s : State) : State := retBy 0xC9 s

/-- `RET cc` (R308). -/
def retIf (cc : Cond) (s : State) : State :=
  let o := opcodeByte 3 cc.code 0
  if condHolds cc s then retBy o s else s.advance 1 (s.notTakenCost o)

/-- `RETI` (R309): IME is set at once, whatever `EI_DELAY` is. -/
def retI (s : State) : State := returnFromInterrupt s (s.opCost 0xD9)

/-- `RST t` (R310). -/
def restart (t : U3) (s : State) : State :=
  (push16 (s.pcNext 1) s).retire (rstTarget t) (s.opCost (opcodeByte 3 t.code 7))

/-! ## The meanings -/

/-- `JR e8` (R303). -/
def execJr_e8 (e : Byte) (s : State) : Result := .next (jumpRel e s)

/-- `JR NZ,e8` (R304). -/
def execJr_NZ_e8 (e : Byte) (s : State) : Result := .next (jumpRelIf .NZ e s)

/-- `JR Z,e8` (R304). -/
def execJr_Z_e8 (e : Byte) (s : State) : Result := .next (jumpRelIf .Z e s)

/-- `JR NC,e8` (R304). -/
def execJr_NC_e8 (e : Byte) (s : State) : Result := .next (jumpRelIf .NC e s)

/-- `JR C,e8` (R304). -/
def execJr_C_e8 (e : Byte) (s : State) : Result := .next (jumpRelIf .C e s)

/-- `RET NZ` (R308). -/
def execRet_NZ (s : State) : Result := .next (retIf .NZ s)

/-- `JP NZ,a16` (R301). -/
def execJp_NZ_a16 (a : Word) (s : State) : Result := .next (jumpIf .NZ a s)

/-- `JP a16` (R300). -/
def execJp_a16 (a : Word) (s : State) : Result := .next (jump a s)

/-- `CALL NZ,a16` (R306). -/
def execCall_NZ_a16 (a : Word) (s : State) : Result := .next (callIf .NZ a s)

/-- `RST 00H` (R310). -/
def execRst_00 (s : State) : Result := .next (restart .n0 s)

/-- `RET Z` (R308). -/
def execRet_Z (s : State) : Result := .next (retIf .Z s)

/-- `RET` (R307). -/
def execRet (s : State) : Result := .next (ret s)

/-- `JP Z,a16` (R301). -/
def execJp_Z_a16 (a : Word) (s : State) : Result := .next (jumpIf .Z a s)

/-- `CALL Z,a16` (R306). -/
def execCall_Z_a16 (a : Word) (s : State) : Result := .next (callIf .Z a s)

/-- `CALL a16` (R305). -/
def execCall_a16 (a : Word) (s : State) : Result := .next (call a s)

/-- `RST 08H` (R310). -/
def execRst_08 (s : State) : Result := .next (restart .n1 s)

/-- `RET NC` (R308). -/
def execRet_NC (s : State) : Result := .next (retIf .NC s)

/-- `JP NC,a16` (R301). -/
def execJp_NC_a16 (a : Word) (s : State) : Result := .next (jumpIf .NC a s)

/-- `CALL NC,a16` (R306). -/
def execCall_NC_a16 (a : Word) (s : State) : Result := .next (callIf .NC a s)

/-- `RST 10H` (R310). -/
def execRst_10 (s : State) : Result := .next (restart .n2 s)

/-- `RET C` (R308). -/
def execRet_C (s : State) : Result := .next (retIf .C s)

/-- `RETI` (R309). -/
def execReti (s : State) : Result := .next (retI s)

/-- `JP C,a16` (R301). -/
def execJp_C_a16 (a : Word) (s : State) : Result := .next (jumpIf .C a s)

/-- `CALL C,a16` (R306). -/
def execCall_C_a16 (a : Word) (s : State) : Result := .next (callIf .C a s)

/-- `RST 18H` (R310). -/
def execRst_18 (s : State) : Result := .next (restart .n3 s)

/-- `RST 20H` (R310). -/
def execRst_20 (s : State) : Result := .next (restart .n4 s)

/-- `JP HL` (R302). -/
def execJp_HL (s : State) : Result := .next (jumpHL s)

/-- `RST 28H` (R310). -/
def execRst_28 (s : State) : Result := .next (restart .n5 s)

/-- `RST 30H` (R310). -/
def execRst_30 (s : State) : Result := .next (restart .n6 s)

/-- `RST 38H` (R310). -/
def execRst_38 (s : State) : Result := .next (restart .n7 s)

end Sys2Proof.Machine
end

