-- ==== Sys2Proof/Machine/RotateBit.lean ====
section
/-! DEFINITION. Rotates, shifts, SWAP and the bit operations (45_rotate_shift_bit.md R270-R285). -/

namespace Sys2Proof.Machine

/-- RLCA, RRCA, RLA and RRA (R270-R273): the prefixed rotate's result, with Z always 0. -/
def rotateA (op : RotOp) (s : State) : State :=
  let r := rotApply op s.cpu.a s.flags.c
  ((s.setA r.1).setFlags (rotAFlags r.2)).advance 1 (s.opCost (opcodeByte 0 op.code 7))

/-- The prefixed rotates and shifts (R274). -/
def rotateR8 (op : RotOp) (r : R8) (s : State) : State :=
  let v := rotApply op (get8 r s) s.flags.c
  ((set8 r v.1 s).setFlags (rotFlags v.1 v.2)).advance 2
    (s.cbCost (opcodeByte 0 op.code r.code))

/-- `BIT u3,r8` (R283): nothing is written back. -/
def testBitR8 (u : U3) (r : R8) (s : State) : State :=
  (s.setFlags (bitFlags ((get8 r s).getLsbD u.code) s.flags)).advance 2
    (s.cbCost (opcodeByte 1 u.code r.code))

/-- `RES u3,r8` (R284): the byte is written even when the bit was clear. -/
def resetBitR8 (u : U3) (r : R8) (s : State) : State :=
  (set8 r (get8 r s &&& ~~~((1 : Byte) <<< u.code)) s).advance 2
    (s.cbCost (opcodeByte 2 u.code r.code))

/-- `SET u3,r8` (R285). -/
def setBitR8 (u : U3) (r : R8) (s : State) : State :=
  (set8 r (get8 r s ||| ((1 : Byte) <<< u.code)) s).advance 2
    (s.cbCost (opcodeByte 3 u.code r.code))

/-- The CB-table instruction that a second byte selects (R154), on a state. -/
def cbTable (op2 : Byte) (s : State) : State :=
  match fieldX op2 with
  | 0 => rotateR8 (.ofCode (fieldY op2)) (.ofCode (fieldZ op2)) s
  | 1 => testBitR8 (.ofCode (fieldY op2)) (.ofCode (fieldZ op2)) s
  | 2 => resetBitR8 (.ofCode (fieldY op2)) (.ofCode (fieldZ op2)) s
  | _ => setBitR8 (.ofCode (fieldY op2)) (.ofCode (fieldZ op2)) s

/-! ## The meanings -/

/-- `RLCA` (R270). -/
def execRlca (s : State) : Result := .next (rotateA .rlc s)

/-- `RRCA` (R271). -/
def execRrca (s : State) : Result := .next (rotateA .rrc s)

/-- `RLA` (R272). -/
def execRla (s : State) : Result := .next (rotateA .rl s)

/-- `RRA` (R273). -/
def execRra (s : State) : Result := .next (rotateA .rr s)

/-- `RLC B` (R275). -/
def execRlc_B (s : State) : Result := .next (rotateR8 .rlc .B s)

/-- `RLC C` (R275). -/
def execRlc_C (s : State) : Result := .next (rotateR8 .rlc .C s)

/-- `RLC D` (R275). -/
def execRlc_D (s : State) : Result := .next (rotateR8 .rlc .D s)

/-- `RLC E` (R275). -/
def execRlc_E (s : State) : Result := .next (rotateR8 .rlc .E s)

/-- `RLC H` (R275). -/
def execRlc_H (s : State) : Result := .next (rotateR8 .rlc .H s)

/-- `RLC L` (R275). -/
def execRlc_L (s : State) : Result := .next (rotateR8 .rlc .L s)

/-- `RLC (HL)` (R275). -/
def execRlc_mHL (s : State) : Result := .next (rotateR8 .rlc .mHL s)

/-- `RLC A` (R275). -/
def execRlc_A (s : State) : Result := .next (rotateR8 .rlc .A s)

/-- `RRC B` (R276). -/
def execRrc_B (s : State) : Result := .next (rotateR8 .rrc .B s)

/-- `RRC C` (R276). -/
def execRrc_C (s : State) : Result := .next (rotateR8 .rrc .C s)

/-- `RRC D` (R276). -/
def execRrc_D (s : State) : Result := .next (rotateR8 .rrc .D s)

/-- `RRC E` (R276). -/
def execRrc_E (s : State) : Result := .next (rotateR8 .rrc .E s)

/-- `RRC H` (R276). -/
def execRrc_H (s : State) : Result := .next (rotateR8 .rrc .H s)

/-- `RRC L` (R276). -/
def execRrc_L (s : State) : Result := .next (rotateR8 .rrc .L s)

/-- `RRC (HL)` (R276). -/
def execRrc_mHL (s : State) : Result := .next (rotateR8 .rrc .mHL s)

/-- `RRC A` (R276). -/
def execRrc_A (s : State) : Result := .next (rotateR8 .rrc .A s)

/-- `RL B` (R277). -/
def execRl_B (s : State) : Result := .next (rotateR8 .rl .B s)

/-- `RL C` (R277). -/
def execRl_C (s : State) : Result := .next (rotateR8 .rl .C s)

/-- `RL D` (R277). -/
def execRl_D (s : State) : Result := .next (rotateR8 .rl .D s)

/-- `RL E` (R277). -/
def execRl_E (s : State) : Result := .next (rotateR8 .rl .E s)

/-- `RL H` (R277). -/
def execRl_H (s : State) : Result := .next (rotateR8 .rl .H s)

/-- `RL L` (R277). -/
def execRl_L (s : State) : Result := .next (rotateR8 .rl .L s)

/-- `RL (HL)` (R277). -/
def execRl_mHL (s : State) : Result := .next (rotateR8 .rl .mHL s)

/-- `RL A` (R277). -/
def execRl_A (s : State) : Result := .next (rotateR8 .rl .A s)

/-- `RR B` (R278). -/
def execRr_B (s : State) : Result := .next (rotateR8 .rr .B s)

/-- `RR C` (R278). -/
def execRr_C (s : State) : Result := .next (rotateR8 .rr .C s)

/-- `RR D` (R278). -/
def execRr_D (s : State) : Result := .next (rotateR8 .rr .D s)

/-- `RR E` (R278). -/
def execRr_E (s : State) : Result := .next (rotateR8 .rr .E s)

/-- `RR H` (R278). -/
def execRr_H (s : State) : Result := .next (rotateR8 .rr .H s)

/-- `RR L` (R278). -/
def execRr_L (s : State) : Result := .next (rotateR8 .rr .L s)

/-- `RR (HL)` (R278). -/
def execRr_mHL (s : State) : Result := .next (rotateR8 .rr .mHL s)

/-- `RR A` (R278). -/
def execRr_A (s : State) : Result := .next (rotateR8 .rr .A s)

/-- `SLA B` (R279). -/
def execSla_B (s : State) : Result := .next (rotateR8 .sla .B s)

/-- `SLA C` (R279). -/
def execSla_C (s : State) : Result := .next (rotateR8 .sla .C s)

/-- `SLA D` (R279). -/
def execSla_D (s : State) : Result := .next (rotateR8 .sla .D s)

/-- `SLA E` (R279). -/
def execSla_E (s : State) : Result := .next (rotateR8 .sla .E s)

/-- `SLA H` (R279). -/
def execSla_H (s : State) : Result := .next (rotateR8 .sla .H s)

/-- `SLA L` (R279). -/
def execSla_L (s : State) : Result := .next (rotateR8 .sla .L s)

/-- `SLA (HL)` (R279). -/
def execSla_mHL (s : State) : Result := .next (rotateR8 .sla .mHL s)

/-- `SLA A` (R279). -/
def execSla_A (s : State) : Result := .next (rotateR8 .sla .A s)

/-- `SRA B` (R280). -/
def execSra_B (s : State) : Result := .next (rotateR8 .sra .B s)

/-- `SRA C` (R280). -/
def execSra_C (s : State) : Result := .next (rotateR8 .sra .C s)

/-- `SRA D` (R280). -/
def execSra_D (s : State) : Result := .next (rotateR8 .sra .D s)

/-- `SRA E` (R280). -/
def execSra_E (s : State) : Result := .next (rotateR8 .sra .E s)

/-- `SRA H` (R280). -/
def execSra_H (s : State) : Result := .next (rotateR8 .sra .H s)

/-- `SRA L` (R280). -/
def execSra_L (s : State) : Result := .next (rotateR8 .sra .L s)

/-- `SRA (HL)` (R280). -/
def execSra_mHL (s : State) : Result := .next (rotateR8 .sra .mHL s)

/-- `SRA A` (R280). -/
def execSra_A (s : State) : Result := .next (rotateR8 .sra .A s)

/-- `SWAP B` (R281). -/
def execSwap_B (s : State) : Result := .next (rotateR8 .swap .B s)

/-- `SWAP C` (R281). -/
def execSwap_C (s : State) : Result := .next (rotateR8 .swap .C s)

/-- `SWAP D` (R281). -/
def execSwap_D (s : State) : Result := .next (rotateR8 .swap .D s)

/-- `SWAP E` (R281). -/
def execSwap_E (s : State) : Result := .next (rotateR8 .swap .E s)

/-- `SWAP H` (R281). -/
def execSwap_H (s : State) : Result := .next (rotateR8 .swap .H s)

/-- `SWAP L` (R281). -/
def execSwap_L (s : State) : Result := .next (rotateR8 .swap .L s)

/-- `SWAP (HL)` (R281). -/
def execSwap_mHL (s : State) : Result := .next (rotateR8 .swap .mHL s)

/-- `SWAP A` (R281). -/
def execSwap_A (s : State) : Result := .next (rotateR8 .swap .A s)

/-- `SRL B` (R282). -/
def execSrl_B (s : State) : Result := .next (rotateR8 .srl .B s)

/-- `SRL C` (R282). -/
def execSrl_C (s : State) : Result := .next (rotateR8 .srl .C s)

/-- `SRL D` (R282). -/
def execSrl_D (s : State) : Result := .next (rotateR8 .srl .D s)

/-- `SRL E` (R282). -/
def execSrl_E (s : State) : Result := .next (rotateR8 .srl .E s)

/-- `SRL H` (R282). -/
def execSrl_H (s : State) : Result := .next (rotateR8 .srl .H s)

/-- `SRL L` (R282). -/
def execSrl_L (s : State) : Result := .next (rotateR8 .srl .L s)

/-- `SRL (HL)` (R282). -/
def execSrl_mHL (s : State) : Result := .next (rotateR8 .srl .mHL s)

/-- `SRL A` (R282). -/
def execSrl_A (s : State) : Result := .next (rotateR8 .srl .A s)

/-- `BIT 0,B` (R283). -/
def execBit_0_B (s : State) : Result := .next (testBitR8 .n0 .B s)

/-- `BIT 0,C` (R283). -/
def execBit_0_C (s : State) : Result := .next (testBitR8 .n0 .C s)

/-- `BIT 0,D` (R283). -/
def execBit_0_D (s : State) : Result := .next (testBitR8 .n0 .D s)

/-- `BIT 0,E` (R283). -/
def execBit_0_E (s : State) : Result := .next (testBitR8 .n0 .E s)

/-- `BIT 0,H` (R283). -/
def execBit_0_H (s : State) : Result := .next (testBitR8 .n0 .H s)

/-- `BIT 0,L` (R283). -/
def execBit_0_L (s : State) : Result := .next (testBitR8 .n0 .L s)

/-- `BIT 0,(HL)` (R283). -/
def execBit_0_mHL (s : State) : Result := .next (testBitR8 .n0 .mHL s)

/-- `BIT 0,A` (R283). -/
def execBit_0_A (s : State) : Result := .next (testBitR8 .n0 .A s)

/-- `BIT 1,B` (R283). -/
def execBit_1_B (s : State) : Result := .next (testBitR8 .n1 .B s)

/-- `BIT 1,C` (R283). -/
def execBit_1_C (s : State) : Result := .next (testBitR8 .n1 .C s)

/-- `BIT 1,D` (R283). -/
def execBit_1_D (s : State) : Result := .next (testBitR8 .n1 .D s)

/-- `BIT 1,E` (R283). -/
def execBit_1_E (s : State) : Result := .next (testBitR8 .n1 .E s)

/-- `BIT 1,H` (R283). -/
def execBit_1_H (s : State) : Result := .next (testBitR8 .n1 .H s)

/-- `BIT 1,L` (R283). -/
def execBit_1_L (s : State) : Result := .next (testBitR8 .n1 .L s)

/-- `BIT 1,(HL)` (R283). -/
def execBit_1_mHL (s : State) : Result := .next (testBitR8 .n1 .mHL s)

/-- `BIT 1,A` (R283). -/
def execBit_1_A (s : State) : Result := .next (testBitR8 .n1 .A s)

/-- `BIT 2,B` (R283). -/
def execBit_2_B (s : State) : Result := .next (testBitR8 .n2 .B s)

/-- `BIT 2,C` (R283). -/
def execBit_2_C (s : State) : Result := .next (testBitR8 .n2 .C s)

/-- `BIT 2,D` (R283). -/
def execBit_2_D (s : State) : Result := .next (testBitR8 .n2 .D s)

/-- `BIT 2,E` (R283). -/
def execBit_2_E (s : State) : Result := .next (testBitR8 .n2 .E s)

/-- `BIT 2,H` (R283). -/
def execBit_2_H (s : State) : Result := .next (testBitR8 .n2 .H s)

/-- `BIT 2,L` (R283). -/
def execBit_2_L (s : State) : Result := .next (testBitR8 .n2 .L s)

/-- `BIT 2,(HL)` (R283). -/
def execBit_2_mHL (s : State) : Result := .next (testBitR8 .n2 .mHL s)

/-- `BIT 2,A` (R283). -/
def execBit_2_A (s : State) : Result := .next (testBitR8 .n2 .A s)

/-- `BIT 3,B` (R283). -/
def execBit_3_B (s : State) : Result := .next (testBitR8 .n3 .B s)

/-- `BIT 3,C` (R283). -/
def execBit_3_C (s : State) : Result := .next (testBitR8 .n3 .C s)

/-- `BIT 3,D` (R283). -/
def execBit_3_D (s : State) : Result := .next (testBitR8 .n3 .D s)

/-- `BIT 3,E` (R283). -/
def execBit_3_E (s : State) : Result := .next (testBitR8 .n3 .E s)

/-- `BIT 3,H` (R283). -/
def execBit_3_H (s : State) : Result := .next (testBitR8 .n3 .H s)

/-- `BIT 3,L` (R283). -/
def execBit_3_L (s : State) : Result := .next (testBitR8 .n3 .L s)

/-- `BIT 3,(HL)` (R283). -/
def execBit_3_mHL (s : State) : Result := .next (testBitR8 .n3 .mHL s)

/-- `BIT 3,A` (R283). -/
def execBit_3_A (s : State) : Result := .next (testBitR8 .n3 .A s)

/-- `BIT 4,B` (R283). -/
def execBit_4_B (s : State) : Result := .next (testBitR8 .n4 .B s)

/-- `BIT 4,C` (R283). -/
def execBit_4_C (s : State) : Result := .next (testBitR8 .n4 .C s)

/-- `BIT 4,D` (R283). -/
def execBit_4_D (s : State) : Result := .next (testBitR8 .n4 .D s)

/-- `BIT 4,E` (R283). -/
def execBit_4_E (s : State) : Result := .next (testBitR8 .n4 .E s)

/-- `BIT 4,H` (R283). -/
def execBit_4_H (s : State) : Result := .next (testBitR8 .n4 .H s)

/-- `BIT 4,L` (R283). -/
def execBit_4_L (s : State) : Result := .next (testBitR8 .n4 .L s)

/-- `BIT 4,(HL)` (R283). -/
def execBit_4_mHL (s : State) : Result := .next (testBitR8 .n4 .mHL s)

/-- `BIT 4,A` (R283). -/
def execBit_4_A (s : State) : Result := .next (testBitR8 .n4 .A s)

/-- `BIT 5,B` (R283). -/
def execBit_5_B (s : State) : Result := .next (testBitR8 .n5 .B s)

/-- `BIT 5,C` (R283). -/
def execBit_5_C (s : State) : Result := .next (testBitR8 .n5 .C s)

/-- `BIT 5,D` (R283). -/
def execBit_5_D (s : State) : Result := .next (testBitR8 .n5 .D s)

/-- `BIT 5,E` (R283). -/
def execBit_5_E (s : State) : Result := .next (testBitR8 .n5 .E s)

/-- `BIT 5,H` (R283). -/
def execBit_5_H (s : State) : Result := .next (testBitR8 .n5 .H s)

/-- `BIT 5,L` (R283). -/
def execBit_5_L (s : State) : Result := .next (testBitR8 .n5 .L s)

/-- `BIT 5,(HL)` (R283). -/
def execBit_5_mHL (s : State) : Result := .next (testBitR8 .n5 .mHL s)

/-- `BIT 5,A` (R283). -/
def execBit_5_A (s : State) : Result := .next (testBitR8 .n5 .A s)

/-- `BIT 6,B` (R283). -/
def execBit_6_B (s : State) : Result := .next (testBitR8 .n6 .B s)

/-- `BIT 6,C` (R283). -/
def execBit_6_C (s : State) : Result := .next (testBitR8 .n6 .C s)

/-- `BIT 6,D` (R283). -/
def execBit_6_D (s : State) : Result := .next (testBitR8 .n6 .D s)

/-- `BIT 6,E` (R283). -/
def execBit_6_E (s : State) : Result := .next (testBitR8 .n6 .E s)

/-- `BIT 6,H` (R283). -/
def execBit_6_H (s : State) : Result := .next (testBitR8 .n6 .H s)

/-- `BIT 6,L` (R283). -/
def execBit_6_L (s : State) : Result := .next (testBitR8 .n6 .L s)

/-- `BIT 6,(HL)` (R283). -/
def execBit_6_mHL (s : State) : Result := .next (testBitR8 .n6 .mHL s)

/-- `BIT 6,A` (R283). -/
def execBit_6_A (s : State) : Result := .next (testBitR8 .n6 .A s)

/-- `BIT 7,B` (R283). -/
def execBit_7_B (s : State) : Result := .next (testBitR8 .n7 .B s)

/-- `BIT 7,C` (R283). -/
def execBit_7_C (s : State) : Result := .next (testBitR8 .n7 .C s)

/-- `BIT 7,D` (R283). -/
def execBit_7_D (s : State) : Result := .next (testBitR8 .n7 .D s)

/-- `BIT 7,E` (R283). -/
def execBit_7_E (s : State) : Result := .next (testBitR8 .n7 .E s)

/-- `BIT 7,H` (R283). -/
def execBit_7_H (s : State) : Result := .next (testBitR8 .n7 .H s)

/-- `BIT 7,L` (R283). -/
def execBit_7_L (s : State) : Result := .next (testBitR8 .n7 .L s)

/-- `BIT 7,(HL)` (R283). -/
def execBit_7_mHL (s : State) : Result := .next (testBitR8 .n7 .mHL s)

/-- `BIT 7,A` (R283). -/
def execBit_7_A (s : State) : Result := .next (testBitR8 .n7 .A s)

/-- `RES 0,B` (R284). -/
def execRes_0_B (s : State) : Result := .next (resetBitR8 .n0 .B s)

/-- `RES 0,C` (R284). -/
def execRes_0_C (s : State) : Result := .next (resetBitR8 .n0 .C s)

/-- `RES 0,D` (R284). -/
def execRes_0_D (s : State) : Result := .next (resetBitR8 .n0 .D s)

/-- `RES 0,E` (R284). -/
def execRes_0_E (s : State) : Result := .next (resetBitR8 .n0 .E s)

/-- `RES 0,H` (R284). -/
def execRes_0_H (s : State) : Result := .next (resetBitR8 .n0 .H s)

/-- `RES 0,L` (R284). -/
def execRes_0_L (s : State) : Result := .next (resetBitR8 .n0 .L s)

/-- `RES 0,(HL)` (R284). -/
def execRes_0_mHL (s : State) : Result := .next (resetBitR8 .n0 .mHL s)

/-- `RES 0,A` (R284). -/
def execRes_0_A (s : State) : Result := .next (resetBitR8 .n0 .A s)

/-- `RES 1,B` (R284). -/
def execRes_1_B (s : State) : Result := .next (resetBitR8 .n1 .B s)

/-- `RES 1,C` (R284). -/
def execRes_1_C (s : State) : Result := .next (resetBitR8 .n1 .C s)

/-- `RES 1,D` (R284). -/
def execRes_1_D (s : State) : Result := .next (resetBitR8 .n1 .D s)

/-- `RES 1,E` (R284). -/
def execRes_1_E (s : State) : Result := .next (resetBitR8 .n1 .E s)

/-- `RES 1,H` (R284). -/
def execRes_1_H (s : State) : Result := .next (resetBitR8 .n1 .H s)

/-- `RES 1,L` (R284). -/
def execRes_1_L (s : State) : Result := .next (resetBitR8 .n1 .L s)

/-- `RES 1,(HL)` (R284). -/
def execRes_1_mHL (s : State) : Result := .next (resetBitR8 .n1 .mHL s)

/-- `RES 1,A` (R284). -/
def execRes_1_A (s : State) : Result := .next (resetBitR8 .n1 .A s)

/-- `RES 2,B` (R284). -/
def execRes_2_B (s : State) : Result := .next (resetBitR8 .n2 .B s)

/-- `RES 2,C` (R284). -/
def execRes_2_C (s : State) : Result := .next (resetBitR8 .n2 .C s)

/-- `RES 2,D` (R284). -/
def execRes_2_D (s : State) : Result := .next (resetBitR8 .n2 .D s)

/-- `RES 2,E` (R284). -/
def execRes_2_E (s : State) : Result := .next (resetBitR8 .n2 .E s)

/-- `RES 2,H` (R284). -/
def execRes_2_H (s : State) : Result := .next (resetBitR8 .n2 .H s)

/-- `RES 2,L` (R284). -/
def execRes_2_L (s : State) : Result := .next (resetBitR8 .n2 .L s)

/-- `RES 2,(HL)` (R284). -/
def execRes_2_mHL (s : State) : Result := .next (resetBitR8 .n2 .mHL s)

/-- `RES 2,A` (R284). -/
def execRes_2_A (s : State) : Result := .next (resetBitR8 .n2 .A s)

/-- `RES 3,B` (R284). -/
def execRes_3_B (s : State) : Result := .next (resetBitR8 .n3 .B s)

/-- `RES 3,C` (R284). -/
def execRes_3_C (s : State) : Result := .next (resetBitR8 .n3 .C s)

/-- `RES 3,D` (R284). -/
def execRes_3_D (s : State) : Result := .next (resetBitR8 .n3 .D s)

/-- `RES 3,E` (R284). -/
def execRes_3_E (s : State) : Result := .next (resetBitR8 .n3 .E s)

/-- `RES 3,H` (R284). -/
def execRes_3_H (s : State) : Result := .next (resetBitR8 .n3 .H s)

/-- `RES 3,L` (R284). -/
def execRes_3_L (s : State) : Result := .next (resetBitR8 .n3 .L s)

/-- `RES 3,(HL)` (R284). -/
def execRes_3_mHL (s : State) : Result := .next (resetBitR8 .n3 .mHL s)

/-- `RES 3,A` (R284). -/
def execRes_3_A (s : State) : Result := .next (resetBitR8 .n3 .A s)

/-- `RES 4,B` (R284). -/
def execRes_4_B (s : State) : Result := .next (resetBitR8 .n4 .B s)

/-- `RES 4,C` (R284). -/
def execRes_4_C (s : State) : Result := .next (resetBitR8 .n4 .C s)

/-- `RES 4,D` (R284). -/
def execRes_4_D (s : State) : Result := .next (resetBitR8 .n4 .D s)

/-- `RES 4,E` (R284). -/
def execRes_4_E (s : State) : Result := .next (resetBitR8 .n4 .E s)

/-- `RES 4,H` (R284). -/
def execRes_4_H (s : State) : Result := .next (resetBitR8 .n4 .H s)

/-- `RES 4,L` (R284). -/
def execRes_4_L (s : State) : Result := .next (resetBitR8 .n4 .L s)

/-- `RES 4,(HL)` (R284). -/
def execRes_4_mHL (s : State) : Result := .next (resetBitR8 .n4 .mHL s)

/-- `RES 4,A` (R284). -/
def execRes_4_A (s : State) : Result := .next (resetBitR8 .n4 .A s)

/-- `RES 5,B` (R284). -/
def execRes_5_B (s : State) : Result := .next (resetBitR8 .n5 .B s)

/-- `RES 5,C` (R284). -/
def execRes_5_C (s : State) : Result := .next (resetBitR8 .n5 .C s)

/-- `RES 5,D` (R284). -/
def execRes_5_D (s : State) : Result := .next (resetBitR8 .n5 .D s)

/-- `RES 5,E` (R284). -/
def execRes_5_E (s : State) : Result := .next (resetBitR8 .n5 .E s)

/-- `RES 5,H` (R284). -/
def execRes_5_H (s : State) : Result := .next (resetBitR8 .n5 .H s)

/-- `RES 5,L` (R284). -/
def execRes_5_L (s : State) : Result := .next (resetBitR8 .n5 .L s)

/-- `RES 5,(HL)` (R284). -/
def execRes_5_mHL (s : State) : Result := .next (resetBitR8 .n5 .mHL s)

/-- `RES 5,A` (R284). -/
def execRes_5_A (s : State) : Result := .next (resetBitR8 .n5 .A s)

/-- `RES 6,B` (R284). -/
def execRes_6_B (s : State) : Result := .next (resetBitR8 .n6 .B s)

/-- `RES 6,C` (R284). -/
def execRes_6_C (s : State) : Result := .next (resetBitR8 .n6 .C s)

/-- `RES 6,D` (R284). -/
def execRes_6_D (s : State) : Result := .next (resetBitR8 .n6 .D s)

/-- `RES 6,E` (R284). -/
def execRes_6_E (s : State) : Result := .next (resetBitR8 .n6 .E s)

/-- `RES 6,H` (R284). -/
def execRes_6_H (s : State) : Result := .next (resetBitR8 .n6 .H s)

/-- `RES 6,L` (R284). -/
def execRes_6_L (s : State) : Result := .next (resetBitR8 .n6 .L s)

/-- `RES 6,(HL)` (R284). -/
def execRes_6_mHL (s : State) : Result := .next (resetBitR8 .n6 .mHL s)

/-- `RES 6,A` (R284). -/
def execRes_6_A (s : State) : Result := .next (resetBitR8 .n6 .A s)

/-- `RES 7,B` (R284). -/
def execRes_7_B (s : State) : Result := .next (resetBitR8 .n7 .B s)

/-- `RES 7,C` (R284). -/
def execRes_7_C (s : State) : Result := .next (resetBitR8 .n7 .C s)

/-- `RES 7,D` (R284). -/
def execRes_7_D (s : State) : Result := .next (resetBitR8 .n7 .D s)

/-- `RES 7,E` (R284). -/
def execRes_7_E (s : State) : Result := .next (resetBitR8 .n7 .E s)

/-- `RES 7,H` (R284). -/
def execRes_7_H (s : State) : Result := .next (resetBitR8 .n7 .H s)

/-- `RES 7,L` (R284). -/
def execRes_7_L (s : State) : Result := .next (resetBitR8 .n7 .L s)

/-- `RES 7,(HL)` (R284). -/
def execRes_7_mHL (s : State) : Result := .next (resetBitR8 .n7 .mHL s)

/-- `RES 7,A` (R284). -/
def execRes_7_A (s : State) : Result := .next (resetBitR8 .n7 .A s)

/-- `SET 0,B` (R285). -/
def execSet_0_B (s : State) : Result := .next (setBitR8 .n0 .B s)

/-- `SET 0,C` (R285). -/
def execSet_0_C (s : State) : Result := .next (setBitR8 .n0 .C s)

/-- `SET 0,D` (R285). -/
def execSet_0_D (s : State) : Result := .next (setBitR8 .n0 .D s)

/-- `SET 0,E` (R285). -/
def execSet_0_E (s : State) : Result := .next (setBitR8 .n0 .E s)

/-- `SET 0,H` (R285). -/
def execSet_0_H (s : State) : Result := .next (setBitR8 .n0 .H s)

/-- `SET 0,L` (R285). -/
def execSet_0_L (s : State) : Result := .next (setBitR8 .n0 .L s)

/-- `SET 0,(HL)` (R285). -/
def execSet_0_mHL (s : State) : Result := .next (setBitR8 .n0 .mHL s)

/-- `SET 0,A` (R285). -/
def execSet_0_A (s : State) : Result := .next (setBitR8 .n0 .A s)

/-- `SET 1,B` (R285). -/
def execSet_1_B (s : State) : Result := .next (setBitR8 .n1 .B s)

/-- `SET 1,C` (R285). -/
def execSet_1_C (s : State) : Result := .next (setBitR8 .n1 .C s)

/-- `SET 1,D` (R285). -/
def execSet_1_D (s : State) : Result := .next (setBitR8 .n1 .D s)

/-- `SET 1,E` (R285). -/
def execSet_1_E (s : State) : Result := .next (setBitR8 .n1 .E s)

/-- `SET 1,H` (R285). -/
def execSet_1_H (s : State) : Result := .next (setBitR8 .n1 .H s)

/-- `SET 1,L` (R285). -/
def execSet_1_L (s : State) : Result := .next (setBitR8 .n1 .L s)

/-- `SET 1,(HL)` (R285). -/
def execSet_1_mHL (s : State) : Result := .next (setBitR8 .n1 .mHL s)

/-- `SET 1,A` (R285). -/
def execSet_1_A (s : State) : Result := .next (setBitR8 .n1 .A s)

/-- `SET 2,B` (R285). -/
def execSet_2_B (s : State) : Result := .next (setBitR8 .n2 .B s)

/-- `SET 2,C` (R285). -/
def execSet_2_C (s : State) : Result := .next (setBitR8 .n2 .C s)

/-- `SET 2,D` (R285). -/
def execSet_2_D (s : State) : Result := .next (setBitR8 .n2 .D s)

/-- `SET 2,E` (R285). -/
def execSet_2_E (s : State) : Result := .next (setBitR8 .n2 .E s)

/-- `SET 2,H` (R285). -/
def execSet_2_H (s : State) : Result := .next (setBitR8 .n2 .H s)

/-- `SET 2,L` (R285). -/
def execSet_2_L (s : State) : Result := .next (setBitR8 .n2 .L s)

/-- `SET 2,(HL)` (R285). -/
def execSet_2_mHL (s : State) : Result := .next (setBitR8 .n2 .mHL s)

/-- `SET 2,A` (R285). -/
def execSet_2_A (s : State) : Result := .next (setBitR8 .n2 .A s)

/-- `SET 3,B` (R285). -/
def execSet_3_B (s : State) : Result := .next (setBitR8 .n3 .B s)

/-- `SET 3,C` (R285). -/
def execSet_3_C (s : State) : Result := .next (setBitR8 .n3 .C s)

/-- `SET 3,D` (R285). -/
def execSet_3_D (s : State) : Result := .next (setBitR8 .n3 .D s)

/-- `SET 3,E` (R285). -/
def execSet_3_E (s : State) : Result := .next (setBitR8 .n3 .E s)

/-- `SET 3,H` (R285). -/
def execSet_3_H (s : State) : Result := .next (setBitR8 .n3 .H s)

/-- `SET 3,L` (R285). -/
def execSet_3_L (s : State) : Result := .next (setBitR8 .n3 .L s)

/-- `SET 3,(HL)` (R285). -/
def execSet_3_mHL (s : State) : Result := .next (setBitR8 .n3 .mHL s)

/-- `SET 3,A` (R285). -/
def execSet_3_A (s : State) : Result := .next (setBitR8 .n3 .A s)

/-- `SET 4,B` (R285). -/
def execSet_4_B (s : State) : Result := .next (setBitR8 .n4 .B s)

/-- `SET 4,C` (R285). -/
def execSet_4_C (s : State) : Result := .next (setBitR8 .n4 .C s)

/-- `SET 4,D` (R285). -/
def execSet_4_D (s : State) : Result := .next (setBitR8 .n4 .D s)

/-- `SET 4,E` (R285). -/
def execSet_4_E (s : State) : Result := .next (setBitR8 .n4 .E s)

/-- `SET 4,H` (R285). -/
def execSet_4_H (s : State) : Result := .next (setBitR8 .n4 .H s)

/-- `SET 4,L` (R285). -/
def execSet_4_L (s : State) : Result := .next (setBitR8 .n4 .L s)

/-- `SET 4,(HL)` (R285). -/
def execSet_4_mHL (s : State) : Result := .next (setBitR8 .n4 .mHL s)

/-- `SET 4,A` (R285). -/
def execSet_4_A (s : State) : Result := .next (setBitR8 .n4 .A s)

/-- `SET 5,B` (R285). -/
def execSet_5_B (s : State) : Result := .next (setBitR8 .n5 .B s)

/-- `SET 5,C` (R285). -/
def execSet_5_C (s : State) : Result := .next (setBitR8 .n5 .C s)

/-- `SET 5,D` (R285). -/
def execSet_5_D (s : State) : Result := .next (setBitR8 .n5 .D s)

/-- `SET 5,E` (R285). -/
def execSet_5_E (s : State) : Result := .next (setBitR8 .n5 .E s)

/-- `SET 5,H` (R285). -/
def execSet_5_H (s : State) : Result := .next (setBitR8 .n5 .H s)

/-- `SET 5,L` (R285). -/
def execSet_5_L (s : State) : Result := .next (setBitR8 .n5 .L s)

/-- `SET 5,(HL)` (R285). -/
def execSet_5_mHL (s : State) : Result := .next (setBitR8 .n5 .mHL s)

/-- `SET 5,A` (R285). -/
def execSet_5_A (s : State) : Result := .next (setBitR8 .n5 .A s)

/-- `SET 6,B` (R285). -/
def execSet_6_B (s : State) : Result := .next (setBitR8 .n6 .B s)

/-- `SET 6,C` (R285). -/
def execSet_6_C (s : State) : Result := .next (setBitR8 .n6 .C s)

/-- `SET 6,D` (R285). -/
def execSet_6_D (s : State) : Result := .next (setBitR8 .n6 .D s)

/-- `SET 6,E` (R285). -/
def execSet_6_E (s : State) : Result := .next (setBitR8 .n6 .E s)

/-- `SET 6,H` (R285). -/
def execSet_6_H (s : State) : Result := .next (setBitR8 .n6 .H s)

/-- `SET 6,L` (R285). -/
def execSet_6_L (s : State) : Result := .next (setBitR8 .n6 .L s)

/-- `SET 6,(HL)` (R285). -/
def execSet_6_mHL (s : State) : Result := .next (setBitR8 .n6 .mHL s)

/-- `SET 6,A` (R285). -/
def execSet_6_A (s : State) : Result := .next (setBitR8 .n6 .A s)

/-- `SET 7,B` (R285). -/
def execSet_7_B (s : State) : Result := .next (setBitR8 .n7 .B s)

/-- `SET 7,C` (R285). -/
def execSet_7_C (s : State) : Result := .next (setBitR8 .n7 .C s)

/-- `SET 7,D` (R285). -/
def execSet_7_D (s : State) : Result := .next (setBitR8 .n7 .D s)

/-- `SET 7,E` (R285). -/
def execSet_7_E (s : State) : Result := .next (setBitR8 .n7 .E s)

/-- `SET 7,H` (R285). -/
def execSet_7_H (s : State) : Result := .next (setBitR8 .n7 .H s)

/-- `SET 7,L` (R285). -/
def execSet_7_L (s : State) : Result := .next (setBitR8 .n7 .L s)

/-- `SET 7,(HL)` (R285). -/
def execSet_7_mHL (s : State) : Result := .next (setBitR8 .n7 .mHL s)

/-- `SET 7,A` (R285). -/
def execSet_7_A (s : State) : Result := .next (setBitR8 .n7 .A s)

end Sys2Proof.Machine
end

