-- ==== Sys2Proof/Machine/CpuControl.lean ====
section
/-! DEFINITION. CPU control (47_cpu_control.md R320-R327): NOP, HALT and the halt bug, DI, EI, the CB
prefix, STOP and the illegal bytes. -/

namespace Sys2Proof.Machine

/-- `NOP` (R320). -/
def nop (s : State) : State := s.advance 1 (s.opCost 0x00)

/-- `HaltBug` (R322), as `HALT_BUG_MODE` selects. -/
def haltBug (s : State) : State :=
  match s.params.haltBugMode with
  | .skip2 => s.retire (s.cpu.pc + 2) (s.opCost 0x76)
  | .replay => (s.advance 1 (s.opCost 0x76)).setHaltBugPending true
  | .ignore => (s.advance 1 (s.opCost 0x76)).setRunState .halted

/-- `HALT` (R321). -/
def halt (s : State) : State :=
  if s.cpu.ime = false ∧ s.pending then haltBug s
  else (s.advance 1 (s.opCost 0x76)).setRunState .halted

/-- `DI` (R323). -/
def disableInterrupts (s : State) : State :=
  ((s.setIME false).setEiPending false).advance 1 (s.opCost 0xF3)

/-- `EI` (R324), as `EI_DELAY` selects. -/
def enableInterrupts (s : State) : State :=
  (if s.params.eiDelay then s.setEiPending true else s.setIME true).advance 1
    (s.opCost 0xFB)

/-- The `CB` prefix (R325): read the second byte and execute the CB-table instruction it selects. -/
def prefixCB (s : State) : State := cbTable (busRead (s.fetchAddr 1) s) s

/-- `STOP` raises `Fault(Unmodelled)` (R326). -/
def stopFault (s : State) : Result := .fault (.unmodelled s.cpu.pc 0x10)

/-- An illegal byte raises `Fault(IllegalOpcode)` (R327). -/
def illegalByte (opcode : Byte) (s : State) : Result := .fault (.illegalOpcode s.cpu.pc opcode)

/-! ## The meanings -/

/-- `NOP` (R320). -/
def execNop (s : State) : Result := .next (nop s)

/-- `STOP` (R326): the ignored byte has no effect. -/
def execStop (_ignored : Byte) (s : State) : Result := stopFault s

/-- `HALT` (R321). -/
def execHalt (s : State) : Result := .next (halt s)

/-- `PREFIX CB` (R325). -/
def execPrefix_CB (s : State) : Result := .next (prefixCB s)

/-- Illegal byte 0xD3 (R327). -/
def execIllegal_D3 (s : State) : Result := illegalByte 0xD3 s

/-- Illegal byte 0xDB (R327). -/
def execIllegal_DB (s : State) : Result := illegalByte 0xDB s

/-- Illegal byte 0xDD (R327). -/
def execIllegal_DD (s : State) : Result := illegalByte 0xDD s

/-- Illegal byte 0xE3 (R327). -/
def execIllegal_E3 (s : State) : Result := illegalByte 0xE3 s

/-- Illegal byte 0xE4 (R327). -/
def execIllegal_E4 (s : State) : Result := illegalByte 0xE4 s

/-- Illegal byte 0xEB (R327). -/
def execIllegal_EB (s : State) : Result := illegalByte 0xEB s

/-- Illegal byte 0xEC (R327). -/
def execIllegal_EC (s : State) : Result := illegalByte 0xEC s

/-- Illegal byte 0xED (R327). -/
def execIllegal_ED (s : State) : Result := illegalByte 0xED s

/-- `DI` (R323). -/
def execDi (s : State) : Result := .next (disableInterrupts s)

/-- Illegal byte 0xF4 (R327). -/
def execIllegal_F4 (s : State) : Result := illegalByte 0xF4 s

/-- `EI` (R324). -/
def execEi (s : State) : Result := .next (enableInterrupts s)

/-- Illegal byte 0xFC (R327). -/
def execIllegal_FC (s : State) : Result := illegalByte 0xFC s

/-- Illegal byte 0xFD (R327). -/
def execIllegal_FD (s : State) : Result := illegalByte 0xFD s

end Sys2Proof.Machine
end

