-- ==== Sys2Proof/Machine/Load16.lean ====
section
/-! DEFINITION. The 16-bit loads and the stack instructions (42_load16_stack.md R202-R207). -/

namespace Sys2Proof.Machine

/-- `LD rr,n16` (R202). -/
def loadN16 (rr : R16) (n : Word) (s : State) : State :=
  (set16 rr n s).advance 3 (s.opCost (opcodeByte 0 (2 * rr.code) 1))

/-- `LD (a16),SP` (R203). -/
def storeSP (a : Word) (s : State) : State :=
  (busWrite16 a s.cpu.sp s).advance 3 (s.opCost 0x08)

/-- `LD SP,HL` (R204). -/
def loadSPHL (s : State) : State := (s.setSP s.hl).advance 1 (s.opCost 0xF9)

/-- `PUSH rr` (R205). -/
def push (rr : R16Stk) (s : State) : State :=
  (push16 (getStk rr s) s).advance 1 (s.opCost (opcodeByte 3 (2 * rr.code) 5))

/-- `POP rr` (R206). -/
def pop (rr : R16Stk) (s : State) : State :=
  (setStk rr (pop16Value s) (pop16 s)).advance 1 (s.opCost (opcodeByte 3 (2 * rr.code) 1))

/-- `LD HL,SP+e8` (R207). -/
def loadHLSP (e : Byte) (s : State) : State :=
  let r := addSPe8 s.cpu.sp e
  ((s.setHL r.1).setFlags r.2).advance 2 (s.opCost 0xF8)

/-! ## The meanings -/

/-- `LD BC,n16` (R202). -/
def execLd_BC_n16 (n : Word) (s : State) : Result := .next (loadN16 .BC n s)

/-- `LD (a16),SP` (R203). -/
def execLd_ma16_SP (a : Word) (s : State) : Result := .next (storeSP a s)

/-- `LD DE,n16` (R202). -/
def execLd_DE_n16 (n : Word) (s : State) : Result := .next (loadN16 .DE n s)

/-- `LD HL,n16` (R202). -/
def execLd_HL_n16 (n : Word) (s : State) : Result := .next (loadN16 .HL n s)

/-- `LD SP,n16` (R202). -/
def execLd_SP_n16 (n : Word) (s : State) : Result := .next (loadN16 .SP n s)

/-- `POP BC` (R206). -/
def execPop_BC (s : State) : Result := .next (pop .BC s)

/-- `PUSH BC` (R205). -/
def execPush_BC (s : State) : Result := .next (push .BC s)

/-- `POP DE` (R206). -/
def execPop_DE (s : State) : Result := .next (pop .DE s)

/-- `PUSH DE` (R205). -/
def execPush_DE (s : State) : Result := .next (push .DE s)

/-- `POP HL` (R206). -/
def execPop_HL (s : State) : Result := .next (pop .HL s)

/-- `PUSH HL` (R205). -/
def execPush_HL (s : State) : Result := .next (push .HL s)

/-- `POP AF` (R206). -/
def execPop_AF (s : State) : Result := .next (pop .AF s)

/-- `PUSH AF` (R205). -/
def execPush_AF (s : State) : Result := .next (push .AF s)

/-- `LD HL,SP+e8` (R207). -/
def execLd_HL_SPe8 (e : Byte) (s : State) : Result := .next (loadHLSP e s)

/-- `LD SP,HL` (R204). -/
def execLd_SP_HL (s : State) : Result := .next (loadSPHL s)

end Sys2Proof.Machine
end

