-- ==== Sys2Proof/Machine/Load8.lean ====
section
/-! DEFINITION. The 8-bit loads (41_load8.md R170-R188). No load writes F. The shared operations come first,
then one meaning for each row. -/

namespace Sys2Proof.Machine

/-- `LD r8,r8'` (R170-R172): one of the two may be (HL). -/
def loadR8 (d r : R8) (s : State) : State :=
  (set8 d (get8 r s) s).advance 1 (s.opCost (opcodeByte 1 d.code r.code))

/-- `LD r8,n8` (R173, R174). -/
def loadN8 (d : R8) (n : Byte) (s : State) : State :=
  (set8 d n s).advance 2 (s.opCost (opcodeByte 0 d.code 6))

/-- `LD A,(r16mem)` (R175, R176, R179, R180): the address is read before HL moves. -/
def loadMem (m : R16Mem) (s : State) : State :=
  (memPost m (s.setA (busRead (memAddr m s) s))).advance 1 (s.opCost (opcodeByte 0 (2 * m.code + 1) 2))

/-- `LD (r16mem),A` (R177, R178, R181, R182). -/
def storeMem (m : R16Mem) (s : State) : State :=
  (memPost m (busWrite (memAddr m s) s.cpu.a s)).advance 1 (s.opCost (opcodeByte 0 (2 * m.code) 2))

/-- A load of A from an address, for a form of `len` bytes (R183, R185, R187). -/
def loadA (opcode : Byte) (a : Word) (len : Nat) (s : State) : State :=
  (s.setA (busRead a s)).advance len (s.opCost opcode)

/-- A store of A to an address, for a form of `len` bytes (R184, R186, R188). -/
def storeA (opcode : Byte) (a : Word) (len : Nat) (s : State) : State :=
  (busWrite a s.cpu.a s).advance len (s.opCost opcode)

/-! ## The meanings -/

/-- `LD (BC),A` (R177). -/
def execLd_mBC_A (s : State) : Result := .next (storeMem .BC s)

/-- `LD B,n8` (R173). -/
def execLd_B_n8 (n : Byte) (s : State) : Result := .next (loadN8 .B n s)

/-- `LD A,(BC)` (R175). -/
def execLd_A_mBC (s : State) : Result := .next (loadMem .BC s)

/-- `LD C,n8` (R173). -/
def execLd_C_n8 (n : Byte) (s : State) : Result := .next (loadN8 .C n s)

/-- `LD (DE),A` (R178). -/
def execLd_mDE_A (s : State) : Result := .next (storeMem .DE s)

/-- `LD D,n8` (R173). -/
def execLd_D_n8 (n : Byte) (s : State) : Result := .next (loadN8 .D n s)

/-- `LD A,(DE)` (R176). -/
def execLd_A_mDE (s : State) : Result := .next (loadMem .DE s)

/-- `LD E,n8` (R173). -/
def execLd_E_n8 (n : Byte) (s : State) : Result := .next (loadN8 .E n s)

/-- `LD (HL+),A` (R181). -/
def execLd_mHLi_A (s : State) : Result := .next (storeMem .HLi s)

/-- `LD H,n8` (R173). -/
def execLd_H_n8 (n : Byte) (s : State) : Result := .next (loadN8 .H n s)

/-- `LD A,(HL+)` (R179). -/
def execLd_A_mHLi (s : State) : Result := .next (loadMem .HLi s)

/-- `LD L,n8` (R173). -/
def execLd_L_n8 (n : Byte) (s : State) : Result := .next (loadN8 .L n s)

/-- `LD (HL-),A` (R182). -/
def execLd_mHLd_A (s : State) : Result := .next (storeMem .HLd s)

/-- `LD (HL),n8` (R174). -/
def execLd_mHL_n8 (n : Byte) (s : State) : Result := .next (loadN8 .mHL n s)

/-- `LD A,(HL-)` (R180). -/
def execLd_A_mHLd (s : State) : Result := .next (loadMem .HLd s)

/-- `LD A,n8` (R173). -/
def execLd_A_n8 (n : Byte) (s : State) : Result := .next (loadN8 .A n s)

/-- `LD B,B` (R170). -/
def execLd_B_B (s : State) : Result := .next (loadR8 .B .B s)

/-- `LD B,C` (R170). -/
def execLd_B_C (s : State) : Result := .next (loadR8 .B .C s)

/-- `LD B,D` (R170). -/
def execLd_B_D (s : State) : Result := .next (loadR8 .B .D s)

/-- `LD B,E` (R170). -/
def execLd_B_E (s : State) : Result := .next (loadR8 .B .E s)

/-- `LD B,H` (R170). -/
def execLd_B_H (s : State) : Result := .next (loadR8 .B .H s)

/-- `LD B,L` (R170). -/
def execLd_B_L (s : State) : Result := .next (loadR8 .B .L s)

/-- `LD B,(HL)` (R171). -/
def execLd_B_mHL (s : State) : Result := .next (loadR8 .B .mHL s)

/-- `LD B,A` (R170). -/
def execLd_B_A (s : State) : Result := .next (loadR8 .B .A s)

/-- `LD C,B` (R170). -/
def execLd_C_B (s : State) : Result := .next (loadR8 .C .B s)

/-- `LD C,C` (R170). -/
def execLd_C_C (s : State) : Result := .next (loadR8 .C .C s)

/-- `LD C,D` (R170). -/
def execLd_C_D (s : State) : Result := .next (loadR8 .C .D s)

/-- `LD C,E` (R170). -/
def execLd_C_E (s : State) : Result := .next (loadR8 .C .E s)

/-- `LD C,H` (R170). -/
def execLd_C_H (s : State) : Result := .next (loadR8 .C .H s)

/-- `LD C,L` (R170). -/
def execLd_C_L (s : State) : Result := .next (loadR8 .C .L s)

/-- `LD C,(HL)` (R171). -/
def execLd_C_mHL (s : State) : Result := .next (loadR8 .C .mHL s)

/-- `LD C,A` (R170). -/
def execLd_C_A (s : State) : Result := .next (loadR8 .C .A s)

/-- `LD D,B` (R170). -/
def execLd_D_B (s : State) : Result := .next (loadR8 .D .B s)

/-- `LD D,C` (R170). -/
def execLd_D_C (s : State) : Result := .next (loadR8 .D .C s)

/-- `LD D,D` (R170). -/
def execLd_D_D (s : State) : Result := .next (loadR8 .D .D s)

/-- `LD D,E` (R170). -/
def execLd_D_E (s : State) : Result := .next (loadR8 .D .E s)

/-- `LD D,H` (R170). -/
def execLd_D_H (s : State) : Result := .next (loadR8 .D .H s)

/-- `LD D,L` (R170). -/
def execLd_D_L (s : State) : Result := .next (loadR8 .D .L s)

/-- `LD D,(HL)` (R171). -/
def execLd_D_mHL (s : State) : Result := .next (loadR8 .D .mHL s)

/-- `LD D,A` (R170). -/
def execLd_D_A (s : State) : Result := .next (loadR8 .D .A s)

/-- `LD E,B` (R170). -/
def execLd_E_B (s : State) : Result := .next (loadR8 .E .B s)

/-- `LD E,C` (R170). -/
def execLd_E_C (s : State) : Result := .next (loadR8 .E .C s)

/-- `LD E,D` (R170). -/
def execLd_E_D (s : State) : Result := .next (loadR8 .E .D s)

/-- `LD E,E` (R170). -/
def execLd_E_E (s : State) : Result := .next (loadR8 .E .E s)

/-- `LD E,H` (R170). -/
def execLd_E_H (s : State) : Result := .next (loadR8 .E .H s)

/-- `LD E,L` (R170). -/
def execLd_E_L (s : State) : Result := .next (loadR8 .E .L s)

/-- `LD E,(HL)` (R171). -/
def execLd_E_mHL (s : State) : Result := .next (loadR8 .E .mHL s)

/-- `LD E,A` (R170). -/
def execLd_E_A (s : State) : Result := .next (loadR8 .E .A s)

/-- `LD H,B` (R170). -/
def execLd_H_B (s : State) : Result := .next (loadR8 .H .B s)

/-- `LD H,C` (R170). -/
def execLd_H_C (s : State) : Result := .next (loadR8 .H .C s)

/-- `LD H,D` (R170). -/
def execLd_H_D (s : State) : Result := .next (loadR8 .H .D s)

/-- `LD H,E` (R170). -/
def execLd_H_E (s : State) : Result := .next (loadR8 .H .E s)

/-- `LD H,H` (R170). -/
def execLd_H_H (s : State) : Result := .next (loadR8 .H .H s)

/-- `LD H,L` (R170). -/
def execLd_H_L (s : State) : Result := .next (loadR8 .H .L s)

/-- `LD H,(HL)` (R171). -/
def execLd_H_mHL (s : State) : Result := .next (loadR8 .H .mHL s)

/-- `LD H,A` (R170). -/
def execLd_H_A (s : State) : Result := .next (loadR8 .H .A s)

/-- `LD L,B` (R170). -/
def execLd_L_B (s : State) : Result := .next (loadR8 .L .B s)

/-- `LD L,C` (R170). -/
def execLd_L_C (s : State) : Result := .next (loadR8 .L .C s)

/-- `LD L,D` (R170). -/
def execLd_L_D (s : State) : Result := .next (loadR8 .L .D s)

/-- `LD L,E` (R170). -/
def execLd_L_E (s : State) : Result := .next (loadR8 .L .E s)

/-- `LD L,H` (R170). -/
def execLd_L_H (s : State) : Result := .next (loadR8 .L .H s)

/-- `LD L,L` (R170). -/
def execLd_L_L (s : State) : Result := .next (loadR8 .L .L s)

/-- `LD L,(HL)` (R171). -/
def execLd_L_mHL (s : State) : Result := .next (loadR8 .L .mHL s)

/-- `LD L,A` (R170). -/
def execLd_L_A (s : State) : Result := .next (loadR8 .L .A s)

/-- `LD (HL),B` (R172). -/
def execLd_mHL_B (s : State) : Result := .next (loadR8 .mHL .B s)

/-- `LD (HL),C` (R172). -/
def execLd_mHL_C (s : State) : Result := .next (loadR8 .mHL .C s)

/-- `LD (HL),D` (R172). -/
def execLd_mHL_D (s : State) : Result := .next (loadR8 .mHL .D s)

/-- `LD (HL),E` (R172). -/
def execLd_mHL_E (s : State) : Result := .next (loadR8 .mHL .E s)

/-- `LD (HL),H` (R172). -/
def execLd_mHL_H (s : State) : Result := .next (loadR8 .mHL .H s)

/-- `LD (HL),L` (R172). -/
def execLd_mHL_L (s : State) : Result := .next (loadR8 .mHL .L s)

/-- `LD (HL),A` (R172). -/
def execLd_mHL_A (s : State) : Result := .next (loadR8 .mHL .A s)

/-- `LD A,B` (R170). -/
def execLd_A_B (s : State) : Result := .next (loadR8 .A .B s)

/-- `LD A,C` (R170). -/
def execLd_A_C (s : State) : Result := .next (loadR8 .A .C s)

/-- `LD A,D` (R170). -/
def execLd_A_D (s : State) : Result := .next (loadR8 .A .D s)

/-- `LD A,E` (R170). -/
def execLd_A_E (s : State) : Result := .next (loadR8 .A .E s)

/-- `LD A,H` (R170). -/
def execLd_A_H (s : State) : Result := .next (loadR8 .A .H s)

/-- `LD A,L` (R170). -/
def execLd_A_L (s : State) : Result := .next (loadR8 .A .L s)

/-- `LD A,(HL)` (R171). -/
def execLd_A_mHL (s : State) : Result := .next (loadR8 .A .mHL s)

/-- `LD A,A` (R170). -/
def execLd_A_A (s : State) : Result := .next (loadR8 .A .A s)

/-- `LDH (a8),A` (R186). -/
def execLdh_ma8_A (a : Byte) (s : State) : Result := .next (storeA 0xE0 (highPage a) 2 s)

/-- `LDH (C),A` (R188). -/
def execLdh_mC_A (s : State) : Result := .next (storeA 0xE2 (highPage s.cpu.c) 1 s)

/-- `LD (a16),A` (R184). -/
def execLd_ma16_A (a : Word) (s : State) : Result := .next (storeA 0xEA a 3 s)

/-- `LDH A,(a8)` (R185). -/
def execLdh_A_ma8 (a : Byte) (s : State) : Result := .next (loadA 0xF0 (highPage a) 2 s)

/-- `LDH A,(C)` (R187). -/
def execLdh_A_mC (s : State) : Result := .next (loadA 0xF2 (highPage s.cpu.c) 1 s)

/-- `LD A,(a16)` (R183). -/
def execLd_A_ma16 (a : Word) (s : State) : Result := .next (loadA 0xFA a 3 s)

end Sys2Proof.Machine
end

