-- ==== Sys2Proof/Machine/Ppu.lean ====
section
/-! DEFINITION. The PPU: the sprite lists (60_exceptions.md R448), the rasterizer (R450-R455) and the mode
sequencer (R440-R447). -/

namespace Sys2Proof.Machine

/-! ## Sprite lists -/

/-- The height of sprites, `LCDC[2] ? 16 : 8` (R448). -/
def Ppu.spriteHeight (p : Ppu) : Nat := if p.lcdc.getLsbD 2 then 16 else 8

/-- OAM entry `i` (R448). -/
def State.oamEntry (s : State) (i : Nat) : OamEntry where
  y := s.readKey (0xFE00 + 4 * i)
  x := s.readKey (0xFE00 + 4 * i + 1)
  tile := s.readKey (0xFE00 + 4 * i + 2)
  flags := s.readKey (0xFE00 + 4 * i + 3)

/-- The entry is on line `ly` at sprite height `h` (R448). -/
def OamEntry.onLine (e : OamEntry) (ly h : Nat) : Bool :=
  decide (e.y.toNat ≤ ly + 16) && decide (ly + 16 < e.y.toNat + h)

/-- Put an entry before those of equal or larger X. -/
def insertByX (e : OamEntry) : List OamEntry → List OamEntry
  | [] => [e]
  | f :: l => if e.x.toNat ≤ f.x.toNat then e :: f :: l else f :: insertByX e l

/-- The stable sort by X: ties keep their order (R448). -/
def sortByX : List OamEntry → List OamEntry
  | [] => []
  | e :: l => insertByX e (sortByX l)

/-- The entries on the line, in OAM order, cut by `SPRITE_LIMIT` (R448). -/
def State.lineEntries (s : State) : List OamEntry :=
  let visible := ((List.range 40).map s.oamEntry).filter
    (fun e => e.onLine s.ppu.ly.toNat s.ppu.spriteHeight)
  match s.params.spriteLimit with
  | some n => visible.take n
  | none => visible

/-- `GatherSprites` (R448). -/
def gatherSprites (s : State) : State :=
  { s with ppu := { s.ppu with
      spritesBehind := sortByX (s.lineEntries.filter (fun e => e.flags.getLsbD 7))
      spritesNormal := sortByX (s.lineEntries.filter (fun e => !e.flags.getLsbD 7)) } }

/-! ## Rasterizer -/

/-- A colour index, 0 to 3 (R453). -/
abbrev ColourIndex := BitVec 2

/-- `TilePixel` (R453): `base` is the bus address of the tile. -/
def State.tilePixel (s : State) (base col row : Nat) : ColourIndex :=
  let lo := s.readKey (base + 2 * row)
  let hi := s.readKey (base + 2 * row + 1)
  BitVec.ofBool (hi.getLsbD (7 - col)) ++ BitVec.ofBool (lo.getLsbD (7 - col))

/-- `DataAddr` (R453): the unsigned index from 0x8000, or the signed one from 0x9000. -/
def Ppu.dataAddr (p : Ppu) (t : Byte) : Nat :=
  if p.lcdc.getLsbD 4 then 0x8000 + 16 * t.toNat else (0x9000 + 16 * t.toInt).toNat

/-- A tile map's base (R451, R452). -/
def mapBase (high : Bool) : Nat := if high then 0x9C00 else 0x9800

/-- The pixel at column `px` and row `py` of the 256 by 256 plane a tile map describes (R451, R452). -/
def State.mapPixel (s : State) (map px py : Nat) : ColourIndex :=
  let t := s.readKey (map + py / 8 * 32 + px / 8)
  s.tilePixel (s.ppu.dataAddr t) (px % 8) (py % 8)

/-- `WindowCovers` (R452). -/
def Ppu.windowCovers (p : Ppu) (x ly : Nat) : Bool :=
  p.lcdc.getLsbD 5 && decide (p.wy.toNat ≤ ly) && decide (p.wx.toNat ≤ x + 7)

/-- `WindowIndex` (R452). -/
def State.windowIndex (s : State) (x ly : Nat) : ColourIndex :=
  s.mapPixel (mapBase (s.ppu.lcdc.getLsbD 6)) (x + 7 - s.ppu.wx.toNat) (ly - s.ppu.wy.toNat)

/-- `BgIndex` (R451). -/
def State.bgIndex (s : State) (x ly : Nat) : ColourIndex :=
  if s.ppu.lcdc.getLsbD 0 = false then 0
  else if s.ppu.windowCovers x ly then s.windowIndex x ly
  else
    s.mapPixel (mapBase (s.ppu.lcdc.getLsbD 3)) ((x + s.ppu.scx.toNat) % 256)
      ((ly + s.ppu.scy.toNat) % 256)

/-- `SpriteIndex` (R454): the colour index and the palette bit, or none where the entry shows nothing.
`x + 8` and `ly + 16` are compared with the stored bytes, which are 8 and 16 above the position. -/
def State.spriteIndex (s : State) (e : OamEntry) (x ly : Nat) : Option (ColourIndex × Bool) :=
  let h := s.ppu.spriteHeight
  if e.x.toNat ≤ x + 8 ∧ x + 8 < e.x.toNat + 8 ∧ e.y.toNat ≤ ly + 16 ∧ ly + 16 < e.y.toNat + h then
    let col := x + 8 - e.x.toNat
    let col := if e.flags.getLsbD 5 then 7 - col else col
    let row := ly + 16 - e.y.toNat
    let row := if e.flags.getLsbD 6 then h - 1 - row else row
    let t := if h = 16 then e.tile &&& 0xFE else e.tile
    let i := s.tilePixel (0x8000 + 16 * t.toNat) col row
    if i = 0 then none else some (i, e.flags.getLsbD 4)
  else none

/-- `Pal` (R455). -/
def palette (reg : Byte) (i : ColourIndex) : Shade := (reg >>> (2 * i.toNat)).setWidth 2

/-- The shade of the first entry of a list that shows a pixel (R455). -/
def State.spriteShade (s : State) (l : List OamEntry) (x ly : Nat) : Option Shade :=
  (l.findSome? (fun e => s.spriteIndex e x ly)).map
    (fun p => palette (if p.2 then s.ppu.obp1 else s.ppu.obp0) p.1)

/-- `Composite` (R455): the normal list, then over background index 0 the behind list, then the
background. -/
def State.composite (s : State) (x ly : Nat) (bgi : ColourIndex) : Shade :=
  let background := palette s.ppu.bgp bgi
  if s.ppu.lcdc.getLsbD 1 then
    match s.spriteShade s.ppu.spritesNormal x ly with
    | some shade => shade
    | none =>
      if bgi = 0 then (s.spriteShade s.ppu.spritesBehind x ly).getD background else background
  else background

/-- The shades of a line (R450). -/
def State.lineShades (s : State) (ly : Nat) : List Shade :=
  (List.range 160).map (fun x => s.composite x ly (s.bgIndex x ly))

/-- `RenderLine` (R450). -/
def renderLine (ly : Nat) (s : State) : State :=
  { s with ppu := { s.ppu with framebuffer := s.ppu.framebuffer.set ly (s.lineShades ly) } }

/-! ## Mode sequencer -/

/-- The budget of a mode, in cycles (R442). -/
def budget : PpuMode → Nat
  | .oamSearch => 80
  | .pixelTransfer => 172
  | .hBlank => 204
  | .vBlank => 456

/-- `ppu_mode <- m`. -/
def State.setMode (s : State) (m : PpuMode) : State := { s with ppu := { s.ppu with mode := m } }

/-- `if STAT[k] = 1 then IF[1] <- 1`, without edge detection (R449). -/
def State.statRequest (s : State) (k : Nat) : State :=
  if s.ppu.statEnables.getLsbD k then s.raiseIF 1 else s

/-- `SetLY(n)` (R447). -/
def setLY (n : Byte) (s : State) : State :=
  let s := { s with ppu := { s.ppu with ly := n, lycEqual := decide (n = s.ppu.lyc) } }
  if s.ppu.lycEqual then s.statRequest 6 else s

/-- Entry to OAM-search on a new line (R445, R446). -/
def enterOamSearch (s : State) : State := (gatherSprites (s.setMode .oamSearch)).statRequest 5

/-- The end of a mode's budget (R443-R446). -/
def transition (s : State) : State :=
  match s.ppu.mode with
  | .oamSearch => s.setMode .pixelTransfer
  | .pixelTransfer => ((renderLine s.ppu.ly.toNat s).setMode .hBlank).statRequest 3
  | .hBlank =>
    let s := setLY (s.ppu.ly + 1) s
    if s.ppu.ly = 144 then ((s.setMode .vBlank).raiseIF 0).statRequest 4 else enterOamSearch s
  | .vBlank =>
    if s.ppu.ly.toNat < 153 then setLY (s.ppu.ly + 1) s else enterOamSearch (setLY 0 s)

/-- The loop of R440. Each round takes at least 80 cycles off the accumulator, so the accumulator itself is
enough fuel (notes/assumptions/17.md). -/
def ppuLoop : Nat → State → State
  | 0, s => s
  | fuel + 1, s =>
    if s.ppu.acc < budget s.ppu.mode then s
    else
      ppuLoop fuel (transition { s with ppu := { s.ppu with acc := s.ppu.acc - budget s.ppu.mode } })

/-- `DisplayOff` (R441). -/
def displayOff (s : State) : State :=
  { s with ppu := { s.ppu with
      ly := 0
      lycEqual := decide (s.ppu.lyc = 0)
      mode := .oamSearch
      acc := 0
      displayWasOff := true } }

/-- `PpuStep(c)` (R440). -/
def ppuStep (c : Nat) (s : State) : State :=
  if s.ppu.lcdc.getLsbD 7 = false then displayOff s
  else
    let s :=
      if s.ppu.displayWasOff then
        gatherSprites { s with ppu := { s.ppu with displayWasOff := false } }
      else s
    let s := { s with ppu := { s.ppu with acc := s.ppu.acc + c } }
    ppuLoop s.ppu.acc s

/-! ## What the host sees -/

/-- The framebuffer as RGBA pixels (R450, R470). -/
def State.framebufferRgba (s : State) : List (List (BitVec 32)) :=
  s.ppu.framebuffer.map (fun row => row.map Config.shadeRgba)

end Sys2Proof.Machine
end

