-- ==== Sys2Proof/Machine/Engine.lean ====
section
/-! DEFINITION. The execution engine: one CPU step (60_exceptions.md R402-R407, 20_memory.md R96) and the
devices after it (R401). -/

namespace Sys2Proof.Machine

/-- The overlay check that begins a CPU step (R96). -/
def overlayCheck (s : State) : State :=
  if s.overlayActive ∧ s.cpu.pc = 0x0100 then { s with overlayActive := false } else s

/-- A CPU step in the Halted state (R402). -/
def haltedStep (s : State) : State :=
  { (if s.pending then s.setRunState .running else s) with cycles := 4 }

/-- The step takes an interrupt instead of an instruction (R403). -/
def State.takesInterrupt (s : State) : Bool := s.cpu.ime && s.pending

/-- A CPU step that services an interrupt (R403). -/
def serviceStep (s : State) : State := { service s with cycles := 20 }

/-- The instruction at PC (R404, R407). Three bytes are read, whatever the length: a read has no side
effect (R123). -/
def fetchInstr (s : State) : Instr :=
  instrOf (busRead (s.fetchAddr 0) s) (busRead (s.fetchAddr 1) s) (busRead (s.fetchAddr 2) s)

/-- The commit of a delayed EI after an instruction (R404, R406): `before` is `ei_pending` at its start. -/
def commitEI (before : Bool) (s : State) : State :=
  if before && s.cpu.eiPending then (s.setIME true).setEiPending false else s

/-- A CPU step that executes an instruction (R404). -/
def instrStep (s : State) : Result :=
  match exec (fetchInstr s) s with
  | .next t => .next (commitEI s.cpu.eiPending t)
  | .fault r => .fault r
  | .refused r => .refused r

/-- `CpuStep` after its overlay check (R402-R404). -/
def cpuStepBody (s : State) : Result :=
  match s.cpu.runState with
  | .halted => .next (haltedStep s)
  | .running => if s.takesInterrupt then .next (serviceStep s) else instrStep s

/-- `CpuStep` (R401-R404). -/
def cpuStep (s : State) : Result := cpuStepBody (overlayCheck s)

/-- The devices, fed the cycles the CPU step reported: timer, then DMA, then PPU (R401). -/
def deviceStep (s : State) : State :=
  ppuStep s.cycles (dmaStep s.cycles (timerStep s.cycles s))

/-- `SysStep` (R401): it fires only when no fault is recorded, and a raised fault ends it before the
devices run. -/
def sysStep (s : State) : Result :=
  match s.fault with
  | some r => .fault r
  | none =>
    match cpuStep s with
    | .next t => .next (deviceStep t)
    | .fault r => .fault r
    | .refused r => .refused r

/-- The state with a raised fault recorded (R32, R400): nothing else is changed but what the step's
overlay check did. A fault already recorded stays. -/
def recordFault (r : Fault) (s : State) : State :=
  match s.fault with
  | some _ => s
  | none => { overlayCheck s with fault := some r }

/-! ## Placing an instruction -/

/-- Store bytes at the keys that the fetch of bytes `k`, `k + 1`, … reads; a byte whose address shows no
stored byte is left out (notes/assumptions/12.md). -/
def placeFetchBytes : Nat → List Byte → State → State
  | _, [], s => s
  | k, v :: vs, s =>
    match loadKey (s.fetchAddr k) s with
    | some key => placeFetchBytes (k + 1) vs (s.writeKey key v)
    | none => placeFetchBytes (k + 1) vs s

/-- The state made ready for its next step to fetch at PC: no fault, running, no interrupt taken, no
replayed fetch, the overlay check of R96 already made. -/
def readyToFetch (s : State) : State :=
  let s := { overlayCheck s with fault := none }
  let s := (s.setRunState .running).setHaltBugPending false
  if s.takesInterrupt then s.setIME false else s

/-- A table word's instruction placed at PC (notes/assumptions/12.md). -/
def placeWord (nbits w : Nat) (s : State) : State :=
  placeFetchBytes 0 (tableBytes nbits w) (readyToFetch s)

end Sys2Proof.Machine
end

