-- ==== Sys2Proof/Machine/Step.lean ====
section
/-! DEFINITION. One step of the block, and the placing of one instruction for it. -/

namespace Sys2Proof.Machine

/-- One SysStep (R401). -/
def step (s : State) : Host.Outcome State Fault Refusal := sysStep s

/-- The state with one table word's instruction where the next step fetches: it stands for the load of a
program from outside (notes/assumptions/4.md, 12.md). -/
def State.withFetchWord (s : State) (nbits w : Nat) : State := placeWord nbits w s

end Sys2Proof.Machine
end

