-- ==== Sys2Proof/Machine/HostInterface.lean ====
section
/-! DEFINITION. What the host can do to the block between two steps (60_exceptions.md R470-R472): load
(20_memory.md R103, 70_reset_and_hazards.md R500), reset (R503), press and release (R471), and the two
reads. -/

namespace Sys2Proof.Machine

/-! ## Load and power-on -/

/-- `BOOT_REGS` (R58), OPEN: the registers when the overlay is used. -/
structure BootRegs where
  a : Byte
  f : Byte
  b : Byte
  c : Byte
  d : Byte
  e : Byte
  h : Byte
  l : Byte
  sp : Word
  deriving DecidableEq, Repr

/-- `BOOT_IO` (R58), OPEN: the I/O registers' stored values when the overlay is used, but for those R58
sets itself. -/
structure BootIo where
  irq : Irq
  tima : Byte
  tma : Byte
  tac : Byte
  dma : Byte
  lcdc : Byte
  statEnables : Byte
  scy : Byte
  scx : Byte
  lyc : Byte
  bgp : Byte
  obp0 : Byte
  obp1 : Byte
  wy : Byte
  wx : Byte
  sound : Sound
  p1Select : Byte
  sb : Byte
  sc : Byte
  deriving DecidableEq, Repr

/-- The OPEN values of a power-on (R502), arguments of the load. -/
structure PowerOnValues where
  /-- `INIT_RAM` and `CART_RAM_INIT`: cells at the keys of Machine/Memory.lean. -/
  ram : List Host.Cell
  /-- OBP0 at power-on, part of `INIT_RAM` (R57). -/
  obp0 : Byte
  /-- OBP1 at power-on, part of `INIT_RAM` (R57). -/
  obp1 : Byte
  bootRegs : BootRegs
  bootIo : BootIo
  deriving DecidableEq, Repr

/-- What the host gives to a load (R470), with the session's parameters and open values. -/
structure LoadArgs where
  /-- The cartridge image; none is a missing file. -/
  image : Option (List Byte)
  /-- `BOOT_OVERLAY` (R95). -/
  overlay : Option (Vector Byte 256)
  params : Params
  /-- `CART_TYPE_TABLE`, `ROM_SIZE_TABLE` and `RAM_SIZE_TABLE` (R100-R102). -/
  tables : HeaderTables
  values : PowerOnValues

/-- The cartridge an image's header describes, or why there is none (R100-R103). Which fault an image with
several bad bytes raises is the model's choice: type, then ROM size, then RAM size
(notes/assumptions/2.md). -/
def cartOfHeader (tables : HeaderTables) (image : List Byte) : Except Fault Cart :=
  if image.length < 0x150 then .error (.truncatedHeader image.length)
  else
    match cartTypeOf tables (image.getD 0x147 0) with
    | none => .error (.unsupportedCartType (image.getD 0x147 0))
    | some v =>
      match romSizeOf tables (image.getD 0x148 0) with
      | none => .error (.unsupportedRomSize (image.getD 0x148 0))
      | some romSize =>
        match ramSizeOf tables (image.getD 0x149 0) with
        | none => .error (.unsupportedRamSize (image.getD 0x149 0))
        | some ramSize => .ok (Cart.powerOn v romSize ramSize)

/-- The cells of the memories `INIT_RAM` and `CART_RAM_INIT` give: those at RAM keys. -/
def ramCells (cells : List Host.Cell) : List Host.Cell :=
  cells.filter (fun c => decide (0x8000 ≤ c.1) && decide (c.1 < romBase))

/-- The byte store at power-on (R500): the overlay, the initial RAM, and the image cut to `rom_size`. A
short image's padding with 0xFF is what unlisted ROM reads as (R103). -/
def powerOnMemory (cart : Cart) (image : List Byte) (overlay : List Byte)
    (ram : List Host.Cell) : Memory :=
  cellsFrom 0 overlay ++ Memory.ofCells (ramCells ram) ++ cellsFrom romBase (image.take cart.romSize)

/-- The CPU at power-on with the overlay (R58). -/
def BootRegs.cpu (r : BootRegs) : Cpu where
  a := r.a
  f := r.f &&& 0xF0
  b := r.b
  c := r.c
  d := r.d
  e := r.e
  h := r.h
  l := r.l
  sp := r.sp
  pc := 0x0000
  ime := false
  runState := .running
  eiPending := false
  haltBugPending := false

/-- The PPU at power-on with the overlay (R58): LY is 0, and the compare flag follows LYC
(notes/assumptions/13.md). -/
def BootIo.ppu (b : BootIo) : Ppu where
  lcdc := b.lcdc
  statEnables := b.statEnables &&& 0x78
  scy := b.scy
  scx := b.scx
  ly := 0
  lyc := b.lyc
  bgp := b.bgp
  obp0 := b.obp0
  obp1 := b.obp1
  wy := b.wy
  wx := b.wx
  mode := .oamSearch
  acc := 0
  lycEqual := decide (b.lyc = 0)
  spritesNormal := []
  spritesBehind := []
  framebuffer := Ppu.blankFrame
  displayWasOff := false

/-- The state at power-on without the overlay (R56-R57, R500). -/
def powerOnPlain (args : LoadArgs) (cart : Cart) (image : List Byte) : State :=
  gatherSprites
    { State.reset with
      ppu := { Ppu.reset with obp0 := args.values.obp0, obp1 := args.values.obp1 }
      cart := cart
      mem := powerOnMemory cart image [] args.values.ram
      params := args.params }

/-- The state at power-on with the overlay (R58, R500). Stored values keep the masks of their registers
(notes/assumptions/13.md). No DMA is active: R58 does not list dma_active, and that it is false is the
model's choice (notes/assumptions/6.md). -/
def powerOnOverlay (args : LoadArgs) (cart : Cart) (image : List Byte)
    (overlay : Vector Byte 256) : State :=
  let io := args.values.bootIo
  gatherSprites
    { State.reset with
      cpu := args.values.bootRegs.cpu
      irq := { req := io.irq.req &&& 0x1F, en := io.irq.en }
      timer :=
        { div := 0, divAcc := 0, tima := io.tima, tma := io.tma, tac := io.tac &&& 0x07, timaAcc := 0 }
      dma := { reg := io.dma, active := false, page := 0x00, remaining := 0 }
      ppu := io.ppu
      sound := io.sound
      p1Select := io.p1Select &&& 0x30
      sb := io.sb
      sc := io.sc &&& 0x81
      cart := cart
      mem := powerOnMemory cart image overlay.toList args.values.ram
      overlayActive := true
      params := args.params }

/-- `Load` (R103, R500): a session's first state, or a load fault and no session. -/
def load (args : LoadArgs) : Except Fault State :=
  match args.image with
  | none => .error .missingImage
  | some image =>
    match cartOfHeader args.tables image with
    | .error r => .error r
    | .ok cart =>
      match args.overlay with
      | none => .ok (powerOnPlain args cart image)
      | some overlay => .ok (powerOnOverlay args cart image overlay)

/-! ## A session -/

/-- A button (R59). -/
inductive Button where
  | right
  | left
  | up
  | down
  | a
  | b
  | select
  | start
  deriving DecidableEq, Repr

/-- Set one button. -/
def Buttons.set (v : Bool) (k : Button) (bs : Buttons) : Buttons :=
  match k with
  | .right => { bs with right := v }
  | .left => { bs with left := v }
  | .up => { bs with up := v }
  | .down => { bs with down := v }
  | .a => { bs with a := v }
  | .b => { bs with b := v }
  | .select => { bs with select := v }
  | .start => { bs with start := v }

/-- `press(b)` (R471): the request comes even if the button was pressed already. -/
def press (k : Button) (s : State) : State := ({ s with buttons := s.buttons.set true k }).raiseIF 4

/-- `release(b)` (R471). -/
def release (k : Button) (s : State) : State := { s with buttons := s.buttons.set false k }

/-- The sound-register snapshot (R470): the stored bytes of 0xFF10-0xFF3F. An address without a stored
byte gives 0x00, NR52 its bit 7 (notes/assumptions/15.md). -/
def soundSnapshot (s : State) : List Byte :=
  (List.range 48).map fun i =>
    match ioRegAt (0x10 + i) with
    | .sound r => s.sound.stored r
    | .nr52 => if s.sound.nr52On then 0x80 else 0x00
    | .wave => s.readKey (0xFF10 + i)
    | _ => 0x00

/-- A session: what it was loaded with, and the block's state. -/
structure Session where
  args : LoadArgs
  state : State

/-- The interactions of R470 that change the block, after the load. -/
inductive HostAction where
  | step
  | press (k : Button)
  | release (k : Button)
  | reset
  deriving DecidableEq, Repr

/-- Start a session (R500). -/
def startSession (args : LoadArgs) : Except Fault Session :=
  match load args with
  | .ok s => .ok { args := args, state := s }
  | .error r => .error r

/-- One step of a session: a raised fault is recorded, and a faulted session stays as it is (R32, R400). -/
def stepRecorded (s : State) : State :=
  match step s with
  | .next t => t
  | .fault r => recordFault r s
  | .refused _ => s

/-- The state a host action leaves (R470, R471, R503): a reset is the whole load again, with the same
image, overlay and parameters. -/
def Session.act (k : HostAction) (x : Session) : Session :=
  match k with
  | .step => { x with state := stepRecorded x.state }
  | .press key => { x with state := press key x.state }
  | .release key => { x with state := release key x.state }
  | .reset =>
    match load x.args with
    | .ok s => { x with state := s }
    | .error _ => x

end Sys2Proof.Machine
end

