-- ==== Sys2Proof/Safety.lean ====
section
/-! DEFINITION. What the spec says of every state a run passes through, as one invariant of a step, and what
a safe run is. -/

namespace Sys2Proof.Machine

/-- The byte store is in canonical form. -/
abbrev memoryCanonical (s : State) : Prop := Memory.wf s.mem = true

/-- The low nibble of F is zero (R25). -/
abbrev flagsClean (s : State) : Prop := s.cpu.f &&& 0x0F = 0

/-- Each masked register holds no bit its writes drop: IF (R33), TAC (R39), STAT (R43), P1 (R50) and SC
(R51). -/
abbrev registersMasked (s : State) : Prop :=
  s.irq.req &&& 0xE0 = 0 ∧ s.timer.tac &&& 0xF8 = 0 ∧ s.ppu.statEnables &&& 0x87 = 0 ∧
    s.p1Select &&& 0xCF = 0 ∧ s.sc &&& 0x7E = 0

/-- The divider's accumulator is a count in 0..255 (R36); TIMA's is below the longest period. -/
abbrev timerBounded (s : State) : Prop := s.timer.divAcc < 256 ∧ s.timer.timaAcc < 1024

/-- A transfer that is active has 1 to 160 cycles left (R435, R436). -/
abbrev dmaBounded (s : State) : Prop :=
  s.dma.active = true → 0 < s.dma.remaining ∧ s.dma.remaining ≤ 160

/-- The accumulator is below the mode's budget (R49, R440). -/
abbrev ppuAccBounded (s : State) : Prop := s.ppu.acc < budget s.ppu.mode

/-- LY is 0..153, and 144..153 exactly in V-blank (R8, R45, R445, R446). -/
abbrev scanlineInRange (s : State) : Prop :=
  s.ppu.ly.toNat ≤ 153 ∧ (s.ppu.mode = .vBlank ↔ 144 ≤ s.ppu.ly.toNat)

/-- The framebuffer is 144 rows of 160 pixels (R49). -/
abbrev frameShaped (s : State) : Prop :=
  s.ppu.framebuffer.length = 144 ∧ ∀ row ∈ s.ppu.framebuffer, row.length = 160

/-- `ei_pending` exists only with `EI_DELAY`, `halt_bug_pending` only with `Replay` (R29, R30). -/
abbrev pendingFlagsAllowed (s : State) : Prop :=
  (s.cpu.eiPending = true → s.params.eiDelay = true) ∧
    (s.cpu.haltBugPending = true → s.params.haltBugMode = .replay)

/-- The bank register of a variant stays in the values its writes form (R109, R111-R113). -/
abbrev bankLegal (s : State) : Prop :=
  match s.cart.variant with
  | .none => True
  | .A => s.cart.romBank.toNat < 128 ∧ s.cart.romBank &&& 0x1F ≠ 0 ∧ s.cart.ramBank.toNat < 4
  | .B => 0 < s.cart.romBank.toNat ∧ s.cart.romBank.toNat < 128 ∧ s.cart.ramBank.toNat < 8
  | .C => s.params.mbcCZeroRemap = true → s.cart.romBank &&& 0xFF ≠ 0

/-- The invariant of the block. -/
structure Inv (s : State) : Prop where
  memory : memoryCanonical s
  flags : flagsClean s
  masks : registersMasked s
  timer : timerBounded s
  dma : dmaBounded s
  ppuAcc : ppuAccBounded s
  scanline : scanlineInRange s
  frame : frameShaped s
  pendingFlags : pendingFlagsAllowed s
  bank : bankLegal s

/-- A state from which the next step goes on: no fault is recorded, and the step raises none. -/
def goesOn (s : State) : Prop := ∃ t, step s = .next t

/-- A run of `n` steps that no fault ends. -/
def safeRun : Nat → State → Prop
  | 0, _ => True
  | n + 1, s => ∃ t, step s = .next t ∧ safeRun n t

end Sys2Proof.Machine
end

