-- ==== Sys2Proof/Certificates/Slice0/Obligations.lean ====
section
/-! DEFINITION. The statements for the provers. First the words they are written in (namespace
`Sys2Proof.Claims`): the spec's arithmetic in natural numbers, its tables, and its loops as relations; then
one `def Obligations.<Name> : Prop` for each statement. -/

namespace Sys2Proof.Claims

open Sys2Proof.Machine

/-! ## Words for instructions -/

/-- The byte of F with the four flags (R24). -/
def flagByte (z n h c : Bool) : Byte :=
  BitVec.ofNat 8 (128 * z.toNat + 64 * n.toNat + 32 * h.toNat + 16 * c.toNat)

/-- F.Z (R24). -/
def flagZ (s : State) : Bool := s.cpu.f.getLsbD 7

/-- F.N (R24). -/
def flagN (s : State) : Bool := s.cpu.f.getLsbD 6

/-- F.H (R24). -/
def flagH (s : State) : Bool := s.cpu.f.getLsbD 5

/-- F.C (R24). -/
def flagC (s : State) : Bool := s.cpu.f.getLsbD 4

/-- `pc_next` of an instruction of `len` bytes (R23), one less after a replayed HALT (R407). -/
def pcAfter (s : State) (len : Nat) : Word :=
  BitVec.ofNat 16 (s.cpu.pc.toNat + len + 65536 - s.cpu.haltBugPending.toNat)

/-- The address byte `k` of the instruction is fetched from (R404, R407). -/
def fetchAt (s : State) (k : Nat) : Word :=
  BitVec.ofNat 16 (s.cpu.pc.toNat + k + 65536 - (if k = 0 then 0 else s.cpu.haltBugPending.toNat))

/-- The state with only the PC and the reported cost changed, the replayed fetch used up (R407). -/
def done (s : State) (pc : Word) (cost : Nat) : State :=
  { s with cpu := { s.cpu with pc := pc, haltBugPending := false }, cycles := cost }

/-- The same with A written too. -/
def doneA (s : State) (a : Byte) (pc : Word) (cost : Nat) : State :=
  { s with cpu := { s.cpu with a := a, pc := pc, haltBugPending := false }, cycles := cost }

/-- The same with F written too. -/
def doneF (s : State) (f : Byte) (pc : Word) (cost : Nat) : State :=
  { s with cpu := { s.cpu with f := f, pc := pc, haltBugPending := false }, cycles := cost }

/-- The same with A and F written too. -/
def doneAF (s : State) (a f : Byte) (pc : Word) (cost : Nat) : State :=
  { s with cpu := { s.cpu with a := a, f := f, pc := pc, haltBugPending := false }, cycles := cost }

/-- The code of an `r8` operand (R142). -/
def r8Code : R8 → Nat
  | .B => 0
  | .C => 1
  | .D => 2
  | .E => 3
  | .H => 4
  | .L => 5
  | .mHL => 6
  | .A => 7

/-- The code of an `r16` operand (R143). -/
def r16Code : R16 → Nat
  | .BC => 0
  | .DE => 1
  | .HL => 2
  | .SP => 3

/-- The code of an `r16stk` operand (R144). -/
def stkCode : R16Stk → Nat
  | .BC => 0
  | .DE => 1
  | .HL => 2
  | .AF => 3

/-- The code of a condition (R145). -/
def ccCode : Cond → Nat
  | .NZ => 0
  | .Z => 1
  | .NC => 2
  | .C => 3

/-- The code of an `r16mem` operand (R146). -/
def memCode : R16Mem → Nat
  | .BC => 0
  | .DE => 1
  | .HLi => 2
  | .HLd => 3

/-- The code of an `alu` operation (R148). -/
def aluCode : AluOp → Nat
  | .add => 0
  | .adc => 1
  | .sub => 2
  | .sbc => 3
  | .and => 4
  | .xor => 5
  | .or => 6
  | .cp => 7

/-- The code of a `rot` operation (R149). -/
def rotCode : RotOp → Nat
  | .rlc => 0
  | .rrc => 1
  | .rl => 2
  | .rr => 3
  | .sla => 4
  | .sra => 5
  | .swap => 6
  | .srl => 7

/-- A three-bit field (R147). -/
def u3Code : U3 → Nat
  | .n0 => 0
  | .n1 => 1
  | .n2 => 2
  | .n3 => 3
  | .n4 => 4
  | .n5 => 5
  | .n6 => 6
  | .n7 => 7

/-- An opcode byte. -/
def op (n : Nat) : Byte := BitVec.ofNat 8 n

/-- The low byte of a word. -/
def low (w : Word) : Byte := BitVec.ofNat 8 (w.toNat % 256)

/-- The high byte of a word. -/
def high (w : Word) : Byte := BitVec.ofNat 8 (w.toNat / 256)

/-- `{hi, lo}`, that is `hi * 256 + lo` (R11). -/
def word (hi lo : Byte) : Word := BitVec.ofNat 16 (hi.toNat * 256 + lo.toNat)

/-- The condition a `cc` code names (R145). -/
def condition (cc : Cond) (s : State) : Bool :=
  match cc with
  | .NZ => !flagZ s
  | .Z => flagZ s
  | .NC => !flagC s
  | .C => flagC s

/-- An interrupt is pending: `(IF & IE & 0x1F) ≠ 0` (R410). -/
def interruptPending (s : State) : Prop := s.irq.req &&& s.irq.en &&& 0x1F ≠ 0

/-- The low byte of `a + b + c`, and the flags of Add8 (R220). -/
def addResult (a b c : Nat) : Byte := BitVec.ofNat 8 ((a + b + c) % 256)

/-- The flags of Add8 (R220). -/
def addFlags (a b c : Nat) : Byte :=
  flagByte (decide ((a + b + c) % 256 = 0)) false (decide (15 < a % 16 + b % 16 + c))
    (decide (255 < a + b + c))

/-- The low byte of `a - b - c` (R220); 512 is two turns of the byte, so that no subtraction is cut at 0. -/
def subResult (a b c : Nat) : Byte := BitVec.ofNat 8 ((a + 512 - b - c) % 256)

/-- The flags of Sub8 (R220). -/
def subFlags (a b c : Nat) : Byte :=
  flagByte (decide ((a + 512 - b - c) % 256 = 0)) true (decide (a % 16 < b % 16 + c))
    (decide (a < b + c))

/-- The result and the carry out of a rotate, shift or SWAP of `v` with carry-in `c` (R275-R282), in
natural numbers. -/
def rotate (o : RotOp) (v c : Nat) : Nat × Nat :=
  match o with
  | .rlc => (2 * v % 256 + v / 128, v / 128)
  | .rrc => (v / 2 + 128 * (v % 2), v % 2)
  | .rl => (2 * v % 256 + c, v / 128)
  | .rr => (v / 2 + 128 * c, v % 2)
  | .sla => (2 * v % 256, v / 128)
  | .sra => (v / 2 + 128 * (v / 128), v % 2)
  | .swap => (16 * (v % 16) + v / 16, 0)
  | .srl => (v / 2, v % 2)

/-- The state after Push16 of `v` (R200): the high byte is written first, at SP - 1, then the low byte at
SP - 2. -/
def pushed (v : Word) (s : State) : State :=
  { busWrite (s.cpu.sp - 2) (low v) (busWrite (s.cpu.sp - 1) (high v) s) with
    cpu := { s.cpu with sp := s.cpu.sp - 2 } }

/-- The word Pop16 returns (R201): the low byte is read first, at SP. -/
def popped (s : State) : Word := word (busRead (s.cpu.sp + 1) s) (busRead s.cpu.sp s)

/-- The state with SP moved past a popped word (R201). -/
def unstacked (s : State) : State := { s with cpu := { s.cpu with sp := s.cpu.sp + 2 } }

/-- Executing `i` completes, stores the byte `v` at the bus address `a` and stores nothing else: every key
of the byte store but that address's keeps its byte, and, where the address is storage, every other
address reads as before. -/
def StoresByte (i : Instr) (a : Word) (v : Byte) (s : State) : Prop :=
  ∃ t, exec i s = .next t ∧ (∀ k, storeKey a s ≠ some k → t.readKey k = s.readKey k) ∧
    ∀ k, storeKey a s = some k →
      t.readKey k = v ∧ ∀ b, loadKey b s ≠ some k → busRead b t = busRead b s

/-- Executing `i` completes, stores `v` at `a`, then `w` at `b`, and stores nothing else. -/
def StoresTwoBytes (i : Instr) (a : Word) (v : Byte) (b : Word) (w : Byte) (s : State) : Prop :=
  ∃ t, exec i s = .next t ∧
    (∀ k, storeKey a s ≠ some k → storeKey b (busWrite a v s) ≠ some k → t.readKey k = s.readKey k) ∧
      ∀ k l, storeKey a s = some k → storeKey b s = some l →
        t.readKey l = w ∧ (k ≠ l → t.readKey k = v) ∧
          ∀ c, loadKey c s ≠ some k → loadKey c s ≠ some l → busRead c t = busRead c s

/-! ## Tables -/

/-- The illegal first bytes (R155, R327). -/
def illegalBytes : List Byte :=
  [0xD3, 0xDB, 0xDD, 0xE3, 0xE4, 0xEB, 0xEC, 0xED, 0xF4, 0xFC, 0xFD]

/-- The instruction each illegal byte decodes to. -/
def illegalInstrs : List (Byte × Instr) :=
  [(0xD3, .illegal_D3), (0xDB, .illegal_DB), (0xDD, .illegal_DD), (0xE3, .illegal_E3),
    (0xE4, .illegal_E4), (0xEB, .illegal_EB), (0xEC, .illegal_EC), (0xED, .illegal_ED),
    (0xF4, .illegal_F4), (0xFC, .illegal_FC), (0xFD, .illegal_FD)]

/-- The first bytes of the instructions of three bytes (R156). -/
def threeByteOpcodes : List Byte :=
  [0x01, 0x11, 0x21, 0x31, 0x08, 0xC3, 0xC2, 0xCA, 0xD2, 0xDA, 0xCD, 0xC4, 0xCC, 0xD4, 0xDC, 0xEA,
    0xFA]

/-- The first bytes of the instructions of two bytes (R156). -/
def twoByteOpcodes : List Byte :=
  [0x06, 0x0E, 0x16, 0x1E, 0x26, 0x2E, 0x36, 0x3E, 0x18, 0x20, 0x28, 0x30, 0x38, 0xC6, 0xCE, 0xD6,
    0xDE, 0xE6, 0xEE, 0xF6, 0xFE, 0xE0, 0xF0, 0xE8, 0xF8, 0x10, 0xCB]

/-- Rows 0x00-0x3F of the cost table (R530); a conditional form's entry is its cost when taken, and 0
stands where the table has none. -/
def costRows0 : List Nat :=
  [4, 12, 8, 8, 4, 4, 8, 4, 20, 8, 8, 8, 4, 4, 8, 4] ++
    [0, 12, 8, 8, 4, 4, 8, 4, 12, 8, 8, 8, 4, 4, 8, 4] ++
    [12, 12, 8, 8, 4, 4, 8, 4, 12, 8, 8, 8, 4, 4, 8, 4] ++
    [12, 12, 8, 8, 12, 12, 12, 4, 12, 8, 8, 8, 4, 4, 8, 4]

/-- Rows 0x40-0x7F of the cost table (R530). -/
def costRows1 : List Nat :=
  [4, 4, 4, 4, 4, 4, 8, 4, 4, 4, 4, 4, 4, 4, 8, 4] ++
    [4, 4, 4, 4, 4, 4, 8, 4, 4, 4, 4, 4, 4, 4, 8, 4] ++
    [4, 4, 4, 4, 4, 4, 8, 4, 4, 4, 4, 4, 4, 4, 8, 4] ++
    [8, 8, 8, 8, 8, 8, 4, 8, 4, 4, 4, 4, 4, 4, 8, 4]

/-- Rows 0x80-0xBF of the cost table (R530). -/
def costRows2 : List Nat :=
  [4, 4, 4, 4, 4, 4, 8, 4, 4, 4, 4, 4, 4, 4, 8, 4] ++
    [4, 4, 4, 4, 4, 4, 8, 4, 4, 4, 4, 4, 4, 4, 8, 4] ++
    [4, 4, 4, 4, 4, 4, 8, 4, 4, 4, 4, 4, 4, 4, 8, 4] ++
    [4, 4, 4, 4, 4, 4, 8, 4, 4, 4, 4, 4, 4, 4, 8, 4]

/-- Rows 0xC0-0xFF of the cost table (R530). -/
def costRows3 : List Nat :=
  [20, 12, 16, 16, 24, 16, 8, 16, 20, 16, 16, 0, 24, 24, 8, 16] ++
    [20, 12, 16, 0, 24, 16, 8, 16, 20, 16, 16, 0, 24, 0, 8, 16] ++
    [12, 12, 8, 0, 0, 16, 8, 16, 16, 4, 16, 0, 0, 0, 8, 16] ++
    [12, 12, 8, 4, 0, 16, 8, 16, 12, 8, 16, 4, 0, 0, 8, 16]

/-- The conditional forms, with the cost when not taken (R530). -/
def notTaken : List (Byte × Cond × Nat) :=
  [(0x20, .NZ, 8), (0x28, .Z, 8), (0x30, .NC, 8), (0x38, .C, 8),
    (0xC0, .NZ, 8), (0xC8, .Z, 8), (0xD0, .NC, 8), (0xD8, .C, 8),
    (0xC2, .NZ, 12), (0xCA, .Z, 12), (0xD2, .NC, 12), (0xDA, .C, 12),
    (0xC4, .NZ, 12), (0xCC, .Z, 12), (0xD4, .NC, 12), (0xDC, .C, 12)]

/-- The cost of a CB instruction (R530). -/
def cbCost (o : Byte) : Nat :=
  if o.toNat % 8 = 6 then (if o.toNat / 64 = 1 then 12 else 16) else 8

/-- The cost of the instruction whose first two bytes are `o` and `b`, in a state (R530). -/
def cost (o b : Byte) (s : State) : Nat :=
  if o = 0xCB then cbCost b
  else
    match notTaken.find? (fun r => r.1 = o && !condition r.2.1 s) with
    | some r => r.2.2
    | none => (costRows0 ++ costRows1 ++ costRows2 ++ costRows3).getD o.toNat 0

/-- The cost that the session's `CYCLES` gives the instruction whose first two bytes are `o` and `b`, in a
state: the entry of the second byte after the prefix, a conditional form's own entry where its condition
fails, else the first byte's entry. -/
def tableCost (o b : Byte) (s : State) : Nat :=
  if o = 0xCB then s.params.cycles.cb.get b.toFin
  else if notTaken.any (fun r => r.1 = o && !condition r.2.1 s) then s.params.cycles.notTaken.get o.toFin
  else s.params.cycles.op.get o.toFin

/-- The instruction `i` has the bytes `code`, and executing it in `s` completes with `t` but for the cost,
which is what the session's `CYCLES` gives; `t.cycles` is that cost where `CYCLES` is the default table
(R530). -/
def Runs (i : Instr) (code : List Byte) (s t : State) : Prop :=
  encode i = code ∧
  exec i s = .next { t with cycles := tableCost (code.getD 0 0) (code.getD 1 0) s } ∧
  (s.params.cycles = CycleTable.default → tableCost (code.getD 0 0) (code.getD 1 0) s = t.cycles)

/-- The two addresses a push stores to, the higher one first (R200). -/
def belowSP (s : State) : List Word := [s.cpu.sp - 1, s.cpu.sp - 2]

/-- The bus addresses that executing an instruction in `s` stores to, in their order. -/
def storeAddresses (i : Instr) (s : State) : List Word :=
  let hl := word s.cpu.h s.cpu.l
  match i with
  | .ld_mHLi_A | .ld_mHLd_A | .inc_mHL | .dec_mHL | .ld_mHL_B | .ld_mHL_C | .ld_mHL_D
  | .ld_mHL_E | .ld_mHL_H | .ld_mHL_L | .ld_mHL_A | .rlc_mHL | .rrc_mHL | .rl_mHL | .rr_mHL
  | .sla_mHL | .sra_mHL | .swap_mHL | .srl_mHL | .res_0_mHL | .res_1_mHL | .res_2_mHL
  | .res_3_mHL | .res_4_mHL | .res_5_mHL | .res_6_mHL | .res_7_mHL | .set_0_mHL | .set_1_mHL
  | .set_2_mHL | .set_3_mHL | .set_4_mHL | .set_5_mHL | .set_6_mHL | .set_7_mHL => [hl]
  | .ld_mHL_n8 _ => [hl]
  | .ld_mBC_A => [word s.cpu.b s.cpu.c]
  | .ld_mDE_A => [word s.cpu.d s.cpu.e]
  | .ldh_ma8_A n => [BitVec.ofNat 16 (0xFF00 + n.toNat)]
  | .ldh_mC_A => [BitVec.ofNat 16 (0xFF00 + s.cpu.c.toNat)]
  | .ld_ma16_A a => [a]
  | .ld_ma16_SP a => [a, a + 1]
  | .push_BC | .push_DE | .push_HL | .push_AF | .rst_00 | .rst_08 | .rst_10 | .rst_18 | .rst_20
  | .rst_28 | .rst_30 | .rst_38 => belowSP s
  | .call_a16 _ => belowSP s
  | .call_NZ_a16 _ => if condition .NZ s then belowSP s else []
  | .call_Z_a16 _ => if condition .Z s then belowSP s else []
  | .call_NC_a16 _ => if condition .NC s then belowSP s else []
  | .call_C_a16 _ => if condition .C s then belowSP s else []
  | .prefix_CB =>
    -- the bare prefix finds its second byte in memory: (HL) is stored to but by BIT
    let second := (busRead (fetchAt s 1) s).toNat
    if second % 8 = 6 ∧ second / 64 ≠ 1 then [hl] else []
  | _ => []

/-- The four lines of the default `JOYPAD_READ` as a number (R50): a line is 0 where a button of a selected
group that drives it is pressed. -/
def joypadDefault (s : State) : Nat :=
  let line (button direction : Bool) : Nat :=
    if (s.p1Select.getLsbD 5 = false ∧ button = true) ∨
        (s.p1Select.getLsbD 4 = false ∧ direction = true) then 0 else 1
  line s.buttons.a s.buttons.right + 2 * line s.buttons.b s.buttons.left +
    4 * line s.buttons.select s.buttons.up + 8 * line s.buttons.start s.buttons.down

/-- Which entry of a `JOYPAD_READ` table the select lines and the buttons name. -/
def joypadEntry (s : State) : Nat :=
  512 * (s.p1Select.getLsbD 5).toNat + 256 * (s.p1Select.getLsbD 4).toNat + 128 * s.buttons.start.toNat +
    64 * s.buttons.select.toNat + 32 * s.buttons.b.toNat + 16 * s.buttons.a.toNat +
    8 * s.buttons.down.toNat + 4 * s.buttons.up.toNat + 2 * s.buttons.left.toNat + s.buttons.right.toNat

/-- `JOYPAD_READ` of the select lines and the buttons (R50), as a byte. -/
def joypadNibble (s : State) : Byte :=
  match s.params.joypadRead with
  | .matrix => BitVec.ofNat 8 (joypadDefault s)
  | .table values => (values.toList.getD (joypadEntry s) 0).setWidth 8

/-- The sound registers but NR52, each with its read mask (R52). -/
def soundMasks : List (Word × Byte) :=
  [(0xFF10, 0x80), (0xFF11, 0x3F), (0xFF12, 0x00), (0xFF13, 0xFF), (0xFF14, 0xBF)] ++
    [(0xFF16, 0x3F), (0xFF17, 0x00), (0xFF18, 0xFF), (0xFF19, 0xBF)] ++
    [(0xFF1A, 0x7F), (0xFF1B, 0xFF), (0xFF1C, 0x9F), (0xFF1D, 0xFF), (0xFF1E, 0xBF)] ++
    [(0xFF20, 0xFF), (0xFF21, 0x00), (0xFF22, 0x00), (0xFF23, 0xBF), (0xFF24, 0x00), (0xFF25, 0x00)]

/-- The address is an I/O hole (R94). -/
def isHole (a : Word) : Prop :=
  a.toNat = 0xFF03 ∨ (0xFF08 ≤ a.toNat ∧ a.toNat ≤ 0xFF0E) ∨ a.toNat = 0xFF15 ∨ a.toNat = 0xFF1F ∨
    (0xFF27 ≤ a.toNat ∧ a.toNat ≤ 0xFF2F) ∨ (0xFF4C ≤ a.toNat ∧ a.toNat ≤ 0xFF7F)

/-! ## Words for the step -/

/-- The state after the overlay check that begins a CPU step (R96). -/
def overlaySeen (s : State) : State :=
  { s with overlayActive := s.overlayActive && decide (s.cpu.pc ≠ 0x0100) }

/-- What a step is after its CPU step has left `t`: timer, DMA and PPU, fed the reported cost (R401). -/
def devices (t : State) : State := ppuStep t.cycles (dmaStep t.cycles (timerStep t.cycles t))

/-! ## The loops of the devices, as relations -/

/-- The loop of R430. -/
inductive DividerLoop : State → State → Prop where
  | stop (s : State) (h : s.timer.divAcc < 256) : DividerLoop s s
  | round (s t : State) (h : 256 ≤ s.timer.divAcc)
      (next : DividerLoop
        { s with timer := { s.timer with divAcc := s.timer.divAcc - 256, div := s.timer.div + 1 } } t) :
      DividerLoop s t

/-- The period of R431. -/
def period (s : State) : Nat := [1024, 16, 64, 256].getD (s.timer.tac.toNat % 4) 0

/-- One round of the loop of R431, after the period is taken off: the reload and the request, or the
increment. -/
def countOnce (s : State) : State :=
  if s.timer.tima.toNat = 255 then
    { s with
      timer := { s.timer with tima := s.timer.tma }
      irq := { s.irq with req := s.irq.req ||| 0x04 } }
  else { s with timer := { s.timer with tima := s.timer.tima + 1 } }

/-- The loop of R431. -/
inductive TimaLoop : State → State → Prop where
  | stop (s : State) (h : s.timer.timaAcc < period s) : TimaLoop s s
  | round (s t : State) (h : period s ≤ s.timer.timaAcc)
      (next : TimaLoop
        (countOnce { s with timer := { s.timer with timaAcc := s.timer.timaAcc - period s } }) t) :
      TimaLoop s t

/-- The budgets of R442. -/
def modeBudget : PpuMode → Nat
  | .oamSearch => 80
  | .pixelTransfer => 172
  | .hBlank => 204
  | .vBlank => 456

/-- The loop of R440. -/
inductive PpuLoop : State → State → Prop where
  | stop (s : State) (h : s.ppu.acc < modeBudget s.ppu.mode) : PpuLoop s s
  | round (s t : State) (h : modeBudget s.ppu.mode ≤ s.ppu.acc)
      (next : PpuLoop
        (transition { s with ppu := { s.ppu with acc := s.ppu.acc - modeBudget s.ppu.mode } }) t) :
      PpuLoop s t

/-- Where in the frame of 70224 cycles the sequencer is: the cycles since line 0 began (R442). -/
def framePosition (s : State) : Nat :=
  456 * s.ppu.ly.toNat + s.ppu.acc +
    match s.ppu.mode with
    | .oamSearch => 0
    | .pixelTransfer => 80
    | .hBlank => 252
    | .vBlank => 0

/-! ## Words for the PPU -/

/-- `out` is `l` sorted by X, stably (R448): X never falls along it, and the entries of each X are those of
`l`, in their order. -/
def StablySortedByX (l out : List OamEntry) : Prop :=
  out.Pairwise (fun e f => e.x.toNat ≤ f.x.toNat) ∧
    ∀ x : Byte, out.filter (fun e => e.x = x) = l.filter (fun e => e.x = x)

/-- The snapshot of OAM entry `i`, read through the bus (R448). -/
def entryAt (s : State) (i : Nat) : OamEntry where
  y := busRead (BitVec.ofNat 16 (0xFE00 + 4 * i)) s
  x := busRead (BitVec.ofNat 16 (0xFE00 + 4 * i + 1)) s
  tile := busRead (BitVec.ofNat 16 (0xFE00 + 4 * i + 2)) s
  flags := busRead (BitVec.ofNat 16 (0xFE00 + 4 * i + 3)) s

/-- `h` (R448, R454). -/
def height (s : State) : Nat := if s.ppu.lcdc.getLsbD 2 then 16 else 8

/-- A byte of video RAM at a bus address, read through the bus (R82). -/
def vramByte (s : State) (a : Nat) : Byte := busRead (BitVec.ofNat 16 a) s

/-- `TilePixel` (R453), in natural numbers and through the bus. -/
def tileColour (s : State) (base col row : Nat) : Nat :=
  2 * ((vramByte s (base + 2 * row + 1)).getLsbD (7 - col)).toNat +
    ((vramByte s (base + 2 * row)).getLsbD (7 - col)).toNat

/-- `DataAddr` (R453): `s8(t)` is `t - 256` from 128 up. -/
def tileData (s : State) (t : Byte) : Nat :=
  if s.ppu.lcdc.getLsbD 4 then 0x8000 + 16 * t.toNat
  else if t.toNat < 128 then 0x9000 + 16 * t.toNat
  else 0x8800 + 16 * (t.toNat - 128)

/-- The colour index at a column and row of the plane a tile map gives (R451, R452). -/
def planeColour (s : State) (map px py : Nat) : Nat :=
  tileColour s (tileData s (vramByte s (map + py / 8 * 32 + px / 8))) (px % 8) (py % 8)

/-- `BgIndex` with the window (R451, R452). -/
def backgroundColour (s : State) (x ly : Nat) : Nat :=
  if s.ppu.lcdc.getLsbD 0 = false then 0
  else if s.ppu.lcdc.getLsbD 5 ∧ s.ppu.wy.toNat ≤ ly ∧ s.ppu.wx.toNat ≤ x + 7 then
    planeColour s (if s.ppu.lcdc.getLsbD 6 then 0x9C00 else 0x9800) (x + 7 - s.ppu.wx.toNat)
      (ly - s.ppu.wy.toNat)
  else
    planeColour s (if s.ppu.lcdc.getLsbD 3 then 0x9C00 else 0x9800) ((x + s.ppu.scx.toNat) % 256)
      ((ly + s.ppu.scy.toNat) % 256)

/-- `Pal` (R455), in natural numbers. -/
def paletteShade (reg : Byte) (i : Nat) : Nat := reg.toNat / 4 ^ i % 4

/-- `SpriteIndex` (R454), in integers: the colour index and the palette bit. -/
def spriteColour (s : State) (e : OamEntry) (x ly : Nat) : Option (Nat × Bool) :=
  let h : Int := height s
  let sx : Int := (e.x.toNat : Int) - 8
  let row : Int := (ly : Int) + 16 - e.y.toNat
  if sx ≤ x ∧ (x : Int) < sx + 8 ∧ 0 ≤ row ∧ row < h then
    let col : Int := (x : Int) - sx
    let col : Int := if e.flags.getLsbD 5 then 7 - col else col
    let row : Int := if e.flags.getLsbD 6 then h - 1 - row else row
    let tile : Nat := if h = 16 then e.tile.toNat / 2 * 2 else e.tile.toNat
    let i := tileColour s (0x8000 + 16 * tile) col.toNat row.toNat
    if i = 0 then none else some (i, e.flags.getLsbD 4)
  else none

/-- The shade of the first entry of a list that shows a pixel here (R455). -/
def firstSprite (s : State) (x ly : Nat) : List OamEntry → Option Nat
  | [] => none
  | e :: l =>
    match spriteColour s e x ly with
    | some (i, p) => some (paletteShade (if p then s.ppu.obp1 else s.ppu.obp0) i)
    | none => firstSprite s x ly l

/-- `Composite` (R455). -/
def pixelShade (s : State) (x ly : Nat) : Nat :=
  let bgi := backgroundColour s x ly
  let background := paletteShade s.ppu.bgp bgi
  if s.ppu.lcdc.getLsbD 1 then
    match firstSprite s x ly s.ppu.spritesNormal with
    | some shade => shade
    | none =>
      if bgi = 0 then (firstSprite s x ly s.ppu.spritesBehind).getD background else background
  else background

/-! ## Words for the host interface -/

/-- The button is pressed (R59). -/
def isPressed (k : Button) (s : State) : Bool :=
  match k with
  | .right => s.buttons.right
  | .left => s.buttons.left
  | .up => s.buttons.up
  | .down => s.buttons.down
  | .a => s.buttons.a
  | .b => s.buttons.b
  | .select => s.buttons.select
  | .start => s.buttons.start

/-- The default `CART_TYPE_TABLE` (R100). -/
def cartTypes : List (Byte × Variant) :=
  [(0x00, .none), (0x01, .A), (0x02, .A), (0x03, .A), (0x0F, .B), (0x10, .B), (0x11, .B), (0x12, .B),
    (0x13, .B), (0x19, .C), (0x1A, .C), (0x1B, .C), (0x1C, .C), (0x1D, .C), (0x1E, .C)]

/-- The default `RAM_SIZE_TABLE` (R102). -/
def ramSizes : List (Byte × Nat) :=
  [(0x00, 0), (0x01, 2048), (0x02, 8192), (0x03, 32768), (0x04, 131072), (0x05, 65536)]

/-- The byte is in none of the table's rows. -/
def Unlisted {α : Type} (table : List (Byte × α)) (b : Byte) : Prop := ∀ r ∈ table, r.1 ≠ b

/-- The byte at an index of an image. -/
def imageByte (image : List Byte) (i : Nat) : Byte := image.getD i 0xFF

/-- A two-digit decimal number as a byte of two decimal digits. -/
def bcd (n : Nat) : Byte := BitVec.ofNat 8 (16 * (n / 10) + n % 10)

end Sys2Proof.Claims

section Statements

open Sys2Proof Sys2Proof.Machine Sys2Proof.Claims

/-! ## Encoding -/

/-- Decoding the bytes of a well-formed instruction, whatever follows them, gives the instruction back and
leaves what follows (R140, R157). -/
def Obligations.DecodeInvertsEncode : Prop :=
  ∀ (i : Instr) (rest : List Byte), i.wellFormed = true → decode (encode i ++ rest) = .ok (i, rest)

/-- Whatever bytes decode, the instruction's own bytes are those that were read: no bit of them is dropped. -/
def Obligations.EncodeInvertsDecode : Prop :=
  ∀ (bytes rest : List Byte) (i : Instr), decode bytes = .ok (i, rest) → encode i ++ rest = bytes

/-- Three bytes always decode, to a well-formed instruction of the length R156 lists for the first byte. It
is an illegal byte's instruction exactly when the first byte is one of the 11 of R155. -/
def Obligations.DecodingIsTotal : Prop :=
  ∀ (o b c : Byte) (rest : List Byte), ∃ i : Instr,
    decode (o :: b :: c :: rest) =
        .ok (i, (o :: b :: c :: rest).drop
          (if o ∈ threeByteOpcodes then 3 else if o ∈ twoByteOpcodes then 2 else 1)) ∧
      i.wellFormed = true ∧
      (o ∈ illegalBytes ↔ (o, i) ∈ illegalInstrs) ∧
      ((∃ p ∈ illegalInstrs, p.2 = i) → o ∈ illegalBytes)

/-- The blocks x = 1 and x = 2 (R151, R152) and the CB table (R154): the bytes of each instruction, by its
operand codes (R142, R148, R149). -/
def Obligations.OpcodeBlocks : Prop :=
  (∀ d r : R8, (d = .mHL ∧ r = .mHL) ∨ decode [op (0x40 + 8 * r8Code d + r8Code r)] = .ok (.ldR8 d r, [])) ∧
  decode [0x76] = .ok (.halt, []) ∧
  (∀ (o : AluOp) (r : R8), decode [op (0x80 + 8 * aluCode o + r8Code r)] = .ok (.aluR8 o r, [])) ∧
  (∀ (o : RotOp) (r : R8), decode [0xCB, op (8 * rotCode o + r8Code r)] = .ok (.rotR8 o r, [])) ∧
  (∀ (u : U3) (r : R8), decode [0xCB, op (0x40 + 8 * u3Code u + r8Code r)] = .ok (.bitR8 u r, [])) ∧
  (∀ (u : U3) (r : R8), decode [0xCB, op (0x80 + 8 * u3Code u + r8Code r)] = .ok (.resR8 u r, [])) ∧
  (∀ (u : U3) (r : R8), decode [0xCB, op (0xC0 + 8 * u3Code u + r8Code r)] = .ok (.setR8 u r, []))

/-- One word of each family, its bits written out from the spec's encoding. -/
def Obligations.WordsDecodeAsTheSpecWritesThem : Prop :=
  decode [0b01111000] = .ok (.ld_A_B, []) ∧
  decode [0b00110001, 0xFE, 0xFF] = .ok (.ld_SP_n16 0xFFFE, []) ∧
  decode [0b11000101] = .ok (.push_BC, []) ∧
  decode [0b10000000] = .ok (.add_A_B, []) ∧
  decode [0b00101001] = .ok (.add_HL_HL, []) ∧
  decode [0xCB, 0b01111100] = .ok (.bit_7_H, []) ∧
  decode [0b00100000, 0xFB] = .ok (.jr_NZ_e8 0xFB, []) ∧
  decode [0b11011100, 0x00, 0x20] = .ok (.call_C_a16 0x2000, []) ∧
  decode [0b01110110] = .ok (.halt, []) ∧
  decode [0b11011101] = .ok (.illegal_DD, [])

/-! ## The step -/

/-- A step in which no interrupt is taken fetches at PC and runs the instruction its bytes decode to. What a
step adds around `exec`: the overlay check before it (R96), the commit of a delayed EI after it (R404), then
the devices (R401). A raised fault ends it. -/
def Obligations.StepRunsDecodedInstruction : Prop :=
  ∀ (s : State) (i : Instr) (rest : List Byte),
    s.fault = none → s.cpu.runState = .running → ¬(s.cpu.ime = true ∧ interruptPending s) →
    decode [busRead (fetchAt s 0) (overlaySeen s), busRead (fetchAt s 1) (overlaySeen s),
      busRead (fetchAt s 2) (overlaySeen s)] = .ok (i, rest) →
    step s =
      match exec i (overlaySeen s) with
      | .next t =>
        .next (devices
          (if s.cpu.eiPending ∧ t.cpu.eiPending then
            { t with cpu := { t.cpu with ime := true, eiPending := false } }
          else t))
      | .fault r => .fault r
      | .refused r => .refused r

/-- A step in the Halted state costs 4, fetches nothing, and leaves Halted exactly when an interrupt is
pending, whatever IME is (R402, R416). -/
def Obligations.HaltedStepWaits : Prop :=
  ∀ s : State, s.fault = none → s.cpu.runState = .halted →
    (interruptPending s →
      step s = .next (devices { overlaySeen s with
        cpu := { s.cpu with runState := .running }, cycles := 4 })) ∧
    (¬interruptPending s → step s = .next (devices { overlaySeen s with cycles := 4 }))

/-- Interrupt entry (R403, R411-R413): with IME set, the lowest requested and enabled source is serviced in
place of an instruction. Its one request bit is cleared, IME is cleared, PC is pushed, PC becomes the vector,
and the step's cost is 20. That halt_bug_pending is kept through the entry is the model's choice, for R412 is
silent on it (notes/assumptions/18.md). -/
def Obligations.InterruptEntry : Prop :=
  ∀ (s : State) (i : Nat), s.fault = none → s.cpu.runState = .running → s.cpu.ime = true → i < 5 →
    s.irq.req.getLsbD i = true → s.irq.en.getLsbD i = true →
    (∀ j < i, ¬(s.irq.req.getLsbD j = true ∧ s.irq.en.getLsbD j = true)) →
    let cleared : State := { overlaySeen s with
      irq := { s.irq with req := s.irq.req &&& ~~~((1 : Byte) <<< i) } }
    let u := pushed s.cpu.pc cleared
    step s = .next (devices { u with
      cpu := { u.cpu with ime := false, pc := BitVec.ofNat 16 (0x40 + 8 * i) }, cycles := 20 })

/-- A block with a fault recorded takes no further step, and a step's fault is the one recorded, all else but
the overlay check unchanged (R32, R400). That a step of a faulted block answers the recorded fault again, and
that the recorded state keeps the overlay check done, are the model's choice (notes/assumptions/9.md). -/
def Obligations.FaultEndsTheRun : Prop :=
  (∀ (s : State) (r : Fault), s.fault = some r → step s = .fault r ∧ stepRecorded s = s) ∧
  (∀ (s : State) (r : Fault), s.fault = none → step s = .fault r →
    stepRecorded s = { overlaySeen s with fault := some r } ∧
      ∀ n, Nat.iterate stepRecorded n (stepRecorded s) = stepRecorded s)

/-- The overlay is unmapped by the step that starts with PC = 0x0100, by no other, and never comes back
(R31, R96). -/
def Obligations.OverlayUnmapsAtTheEntryPoint : Prop :=
  ∀ s t : State, step s = .next t →
    (t.overlayActive = true ↔ s.overlayActive = true ∧ s.cpu.pc ≠ 0x0100)

/-- Every instruction but STOP and the illegal bytes completes, in every state, at the cost that the session's
`CYCLES` gives it, which is the table of R530 where `CYCLES` is the default; interrupt service costs 20 and a
halted step 4. -/
def Obligations.EveryInstructionCompletesAtItsCost : Prop :=
  (∀ (s : State) (o b c : Byte) (i : Instr) (rest : List Byte), o ≠ 0x10 → o ∉ illegalBytes →
    decode [o, b, c] = .ok (i, rest) →
    ∃ t, exec i s = .next t ∧ t.cycles = tableCost o b s ∧
      (s.params.cycles = CycleTable.default → t.cycles = cost o b s)) ∧
  (∀ s : State, s.cpu.runState = .running → s.cpu.ime = true → interruptPending s →
    ∃ t, cpuStep s = .next t ∧ t.cycles = 20) ∧
  (∀ s : State, s.cpu.runState = .halted → ∃ t, cpuStep s = .next t ∧ t.cycles = 4)

/-! ## Whole-machine rules -/

/-- Every step keeps the invariant of Safety.lean. -/
def Obligations.EveryStepKeepsTheInvariant : Prop :=
  ∀ s t : State, Inv s → step s = .next t → Inv t

/-- The invariant holds after reset, with the reset values the model chose where the spec gives none
(notes/assumptions/3.md to 7.md). -/
def Obligations.TheInvariantHoldsAtReset : Prop := Inv State.reset

/-- Every session that a load starts meets the invariant, and keeps it through every sequence of steps,
button presses, releases and resets. For a load with the overlay two things it rests on are the model's
choice: the clause on the DMA holds at the start because no DMA is active then (notes/assumptions/6.md), and
the form of the power-on registers (notes/assumptions/13.md). -/
def Obligations.EverySessionKeepsTheInvariant : Prop :=
  ∀ (args : LoadArgs) (x : Session) (acts : List HostAction), startSession args = .ok x →
    Inv (acts.foldl (fun y k => y.act k) x).state

/-- No step changes a byte of ROM or of the overlay, the cartridge's variant and sizes, the parameters, or a
button (R10, R59, R81). -/
def Obligations.NoStepChangesRomOrSession : Prop :=
  ∀ s t : State, step s = .next t →
    (∀ k, k < 0x8000 ∨ romBase ≤ k → t.readKey k = s.readKey k) ∧
      t.cart.variant = s.cart.variant ∧ t.cart.romSize = s.cart.romSize ∧
      t.cart.ramSize = s.cart.ramSize ∧ t.params = s.params ∧ t.buttons = s.buttons ∧
      t.fault = none

/-- The devices stand still inside an instruction (R405): no instruction changes the PPU's mode, accumulator,
line, compare flag, sprite lists or framebuffer, the accumulators of the timers, a button, the overlay or a
recorded fault. -/
def Obligations.InstructionsLeaveDevicesAlone : Prop :=
  ∀ (i : Instr) (s t : State), exec i s = .next t →
    t.ppu.mode = s.ppu.mode ∧ t.ppu.acc = s.ppu.acc ∧ t.ppu.ly = s.ppu.ly ∧
      t.ppu.lycEqual = s.ppu.lycEqual ∧ t.ppu.spritesNormal = s.ppu.spritesNormal ∧
      t.ppu.spritesBehind = s.ppu.spritesBehind ∧ t.ppu.framebuffer = s.ppu.framebuffer ∧
      t.ppu.displayWasOff = s.ppu.displayWasOff ∧ t.timer.divAcc = s.timer.divAcc ∧
      t.timer.timaAcc = s.timer.timaAcc ∧ t.buttons = s.buttons ∧
      t.overlayActive = s.overlayActive ∧ t.fault = s.fault ∧ t.params = s.params

/-- IME is changed by no instruction but EI, DI and RETI: EI and RETI only set it, DI clears it (R27). -/
def Obligations.OnlyEiDiAndRetiChangeIme : Prop :=
  ∀ (i : Instr) (s t : State), exec i s = .next t → t.cpu.ime ≠ s.cpu.ime →
    (i = .di ∧ t.cpu.ime = false) ∨ ((i = .ei ∨ i = .reti) ∧ t.cpu.ime = true)

/-- A pending EI is committed by the next instruction, whichever it is, unless it is DI (R406). -/
def Obligations.DelayedEiCommits : Prop :=
  ∀ s t : State, s.cpu.eiPending = true → instrStep s = .next t →
    t.cpu.eiPending = false ∧ (t.cpu.ime = true ↔ fetchInstr s ≠ .di)

/-- The devices never raise the Serial or the Joypad request, never clear a request, and leave SB and SC as
they are (R33, R460). -/
def Obligations.DevicesRaiseNoSerialRequest : Prop :=
  ∀ s : State,
    (devices s).irq.req.getLsbD 3 = s.irq.req.getLsbD 3 ∧
      (devices s).irq.req.getLsbD 4 = s.irq.req.getLsbD 4 ∧
      (∀ i, s.irq.req.getLsbD i = true → (devices s).irq.req.getLsbD i = true) ∧
      (devices s).irq.en = s.irq.en ∧ (devices s).sb = s.sb ∧ (devices s).sc = s.sc

/-- The bank state is changed only by bus writes to 0x0000-0x7FFF (R115): by no write elsewhere, by no
instruction that stores at no address there, by no interrupt entry whose pushes fall at none, by no halted
step and by no device. -/
def Obligations.BankStateChangesOnlyByControlWrites : Prop :=
  (∀ (a : Word) (v : Byte) (s : State), 0x8000 ≤ a.toNat → (busWrite a v s).cart = s.cart) ∧
  (∀ (i : Instr) (s t : State), exec i s = .next t →
    (∀ a ∈ storeAddresses i s, 0x8000 ≤ a.toNat) → t.cart = s.cart) ∧
  (∀ s : State, 0x8000 ≤ (s.cpu.sp - 1).toNat → 0x8000 ≤ (s.cpu.sp - 2).toNat →
    (service s).cart = s.cart) ∧
  (∀ s t : State, s.cpu.runState = .halted → cpuStep s = .next t → t.cart = s.cart) ∧
  ∀ s : State, (devices s).cart = s.cart

/-! ## The bus -/

/-- What a read returns in each region, and what a write does in each region but the I/O page, the ROM
window and the cartridge RAM (R80-R91, R95, R104, R108). Where the ROM size is no positive multiple of 16384,
which only a table other than the default can give, what 0x4000-0x7FFF reads is the model's choice: the
quotient counts the banks, and with none the bank is left as it is (notes/assumptions/22.md). -/
def Obligations.BusDispatch : Prop :=
  ∀ (a : Word) (v : Byte) (s : State),
    (s.overlayActive = true → a.toNat ≤ 0xFF → busRead a s = s.readKey a.toNat) ∧
    (¬(s.overlayActive = true ∧ a.toNat ≤ 0xFF) → a.toNat ≤ 0x3FFF →
      busRead a s = s.readKey (romBase + a.toNat)) ∧
    (0x4000 ≤ a.toNat → a.toNat ≤ 0x7FFF →
      busRead a s = s.readKey (romBase + ((if s.cart.variant = .none then 1
        else s.cart.romBank.toNat % (s.cart.romSize / 16384)) * 0x4000 + (a.toNat - 0x4000)))) ∧
    (a.toNat ≤ 0x7FFF → s.cart.variant = .none → busWrite a v s = s) ∧
    ((0x8000 ≤ a.toNat ∧ a.toNat ≤ 0x9FFF) ∨ (0xC000 ≤ a.toNat ∧ a.toNat ≤ 0xDFFF) ∨
      (0xFE00 ≤ a.toNat ∧ a.toNat ≤ 0xFE9F) ∨ (0xFF80 ≤ a.toNat ∧ a.toNat ≤ 0xFFFE) →
      busRead a s = s.readKey a.toNat ∧ busWrite a v s = s.writeKey a.toNat v) ∧
    (0xE000 ≤ a.toNat → a.toNat ≤ 0xFDFF →
      busRead a s = s.readKey (a.toNat - 0x2000) ∧ busWrite a v s = s.writeKey (a.toNat - 0x2000) v) ∧
    (0xFEA0 ≤ a.toNat → a.toNat ≤ 0xFEFF → busRead a s = 0xFF ∧ busWrite a v s = s) ∧
    (a.toNat = 0xFFFF → busRead a s = s.irq.en ∧ busWrite a v s = { s with irq := { s.irq with en := v } })

/-- What a read of each I/O register returns (R92), with the masks of R33, R39, R43 and R50-R52, and of each
hole (R94). P1's low bits are the session's `JOYPAD_READ` of its select lines and the buttons. -/
def Obligations.IoReadTable : Prop :=
  ∀ s : State,
    busRead 0xFF00 s = 0xC0 ||| s.p1Select ||| joypadNibble s ∧
    busRead 0xFF01 s = s.sb ∧ busRead 0xFF02 s = s.sc ||| 0x7E ∧
    busRead 0xFF04 s = s.timer.div ∧ busRead 0xFF05 s = s.timer.tima ∧
    busRead 0xFF06 s = s.timer.tma ∧ busRead 0xFF07 s = s.timer.tac ||| 0xF8 ∧
    busRead 0xFF0F s = s.irq.req ||| 0xE0 ∧
    busRead 0xFF10 s = s.sound.nr10 ||| 0x80 ∧ busRead 0xFF11 s = s.sound.nr11 ||| 0x3F ∧
    busRead 0xFF12 s = s.sound.nr12 ∧ busRead 0xFF13 s = 0xFF ∧ busRead 0xFF14 s = s.sound.nr14 ||| 0xBF ∧
    busRead 0xFF16 s = s.sound.nr21 ||| 0x3F ∧ busRead 0xFF17 s = s.sound.nr22 ∧
    busRead 0xFF18 s = 0xFF ∧ busRead 0xFF19 s = s.sound.nr24 ||| 0xBF ∧
    busRead 0xFF1A s = s.sound.nr30 ||| 0x7F ∧ busRead 0xFF1B s = 0xFF ∧
    busRead 0xFF1C s = s.sound.nr32 ||| 0x9F ∧ busRead 0xFF1D s = 0xFF ∧
    busRead 0xFF1E s = s.sound.nr34 ||| 0xBF ∧ busRead 0xFF20 s = 0xFF ∧
    busRead 0xFF21 s = s.sound.nr42 ∧ busRead 0xFF22 s = s.sound.nr43 ∧
    busRead 0xFF23 s = s.sound.nr44 ||| 0xBF ∧ busRead 0xFF24 s = s.sound.nr50 ∧
    busRead 0xFF25 s = s.sound.nr51 ∧
    busRead 0xFF26 s = (if s.sound.nr52On then 0x80 else 0x00) ||| 0x70 |||
        s.params.audioStatus.setWidth 8 ∧
    busRead 0xFF40 s = s.ppu.lcdc ∧
    busRead 0xFF41 s = 0x80 ||| (s.ppu.statEnables &&& 0x78) ||| (if s.ppu.lycEqual then 4 else 0) |||
        (if s.ppu.lcdc.getLsbD 7 then
          (match s.ppu.mode with
            | .hBlank => 0
            | .vBlank => 1
            | .oamSearch => 2
            | .pixelTransfer => 3)
        else 0) ∧
    busRead 0xFF42 s = s.ppu.scy ∧ busRead 0xFF43 s = s.ppu.scx ∧ busRead 0xFF44 s = s.ppu.ly ∧
    busRead 0xFF45 s = s.ppu.lyc ∧ busRead 0xFF46 s = s.dma.reg ∧ busRead 0xFF47 s = s.ppu.bgp ∧
    busRead 0xFF48 s = s.ppu.obp0 ∧ busRead 0xFF49 s = s.ppu.obp1 ∧ busRead 0xFF4A s = s.ppu.wy ∧
    busRead 0xFF4B s = s.ppu.wx ∧
    (∀ a : Word, 0xFF30 ≤ a.toNat → a.toNat ≤ 0xFF3F → busRead a s = s.readKey a.toNat) ∧
    (∀ a : Word, isHole a → busRead a s = 0xFF)

/-- What a write to each I/O register does, and all it does (R52, R93); a write to LY or to a hole does nothing
(R45, R94). -/
def Obligations.IoWriteTable : Prop :=
  ∀ (v : Byte) (s : State),
    busWrite 0xFF00 v s = { s with p1Select := v &&& 0x30 } ∧
    busWrite 0xFF01 v s = { s with sb := v } ∧
    busWrite 0xFF02 v s = { s with sc := v &&& 0x81 } ∧
    busWrite 0xFF04 v s = { s with timer := { s.timer with div := 0 } } ∧
    busWrite 0xFF05 v s = { s with timer := { s.timer with tima := v } } ∧
    busWrite 0xFF06 v s = { s with timer := { s.timer with tma := v } } ∧
    busWrite 0xFF07 v s = { s with timer := { s.timer with tac := v &&& 0x07 } } ∧
    busWrite 0xFF0F v s = { s with irq := { s.irq with req := v &&& 0x1F } } ∧
    busWrite 0xFF10 v s = { s with sound := { s.sound with nr10 := v } } ∧
    busWrite 0xFF11 v s = { s with sound := { s.sound with nr11 := v } } ∧
    busWrite 0xFF12 v s = { s with sound := { s.sound with nr12 := v } } ∧
    busWrite 0xFF13 v s = { s with sound := { s.sound with nr13 := v } } ∧
    busWrite 0xFF14 v s = { s with sound := { s.sound with nr14 := v } } ∧
    busWrite 0xFF16 v s = { s with sound := { s.sound with nr21 := v } } ∧
    busWrite 0xFF17 v s = { s with sound := { s.sound with nr22 := v } } ∧
    busWrite 0xFF18 v s = { s with sound := { s.sound with nr23 := v } } ∧
    busWrite 0xFF19 v s = { s with sound := { s.sound with nr24 := v } } ∧
    busWrite 0xFF1A v s = { s with sound := { s.sound with nr30 := v } } ∧
    busWrite 0xFF1B v s = { s with sound := { s.sound with nr31 := v } } ∧
    busWrite 0xFF1C v s = { s with sound := { s.sound with nr32 := v } } ∧
    busWrite 0xFF1D v s = { s with sound := { s.sound with nr33 := v } } ∧
    busWrite 0xFF1E v s = { s with sound := { s.sound with nr34 := v } } ∧
    busWrite 0xFF20 v s = { s with sound := { s.sound with nr41 := v } } ∧
    busWrite 0xFF21 v s = { s with sound := { s.sound with nr42 := v } } ∧
    busWrite 0xFF22 v s = { s with sound := { s.sound with nr43 := v } } ∧
    busWrite 0xFF23 v s = { s with sound := { s.sound with nr44 := v } } ∧
    busWrite 0xFF24 v s = { s with sound := { s.sound with nr50 := v } } ∧
    busWrite 0xFF25 v s = { s with sound := { s.sound with nr51 := v } } ∧
    busWrite 0xFF26 v s = { s with sound := { s.sound with nr52On := v.getLsbD 7 } } ∧
    busWrite 0xFF40 v s = { s with ppu := { s.ppu with lcdc := v } } ∧
    busWrite 0xFF41 v s = { s with ppu := { s.ppu with statEnables := v &&& 0x78 } } ∧
    busWrite 0xFF42 v s = { s with ppu := { s.ppu with scy := v } } ∧
    busWrite 0xFF43 v s = { s with ppu := { s.ppu with scx := v } } ∧
    busWrite 0xFF44 v s = s ∧
    busWrite 0xFF45 v s = { s with ppu := { s.ppu with lyc := v } } ∧
    busWrite 0xFF46 v s = { s with dma := { reg := v, active := true, page := v, remaining := 160 } } ∧
    busWrite 0xFF47 v s = { s with ppu := { s.ppu with bgp := v } } ∧
    busWrite 0xFF48 v s = { s with ppu := { s.ppu with obp0 := v } } ∧
    busWrite 0xFF49 v s = { s with ppu := { s.ppu with obp1 := v } } ∧
    busWrite 0xFF4A v s = { s with ppu := { s.ppu with wy := v } } ∧
    busWrite 0xFF4B v s = { s with ppu := { s.ppu with wx := v } } ∧
    (∀ a : Word, 0xFF30 ≤ a.toNat → a.toNat ≤ 0xFF3F → busWrite a v s = s.writeKey a.toNat v) ∧
    (∀ a : Word, isHole a → busWrite a v s = s)

/-- A sound register reads the byte written to it with its mask's bits high, and a write to one leaves every
other one and everything outside them as it was (R52). NR52 keeps bit 7 alone. -/
def Obligations.SoundRegisterMasks : Prop :=
  (∀ (v : Byte) (s : State) (p : Word × Byte), p ∈ soundMasks →
    busRead p.1 (busWrite p.1 v s) = v ||| p.2 ∧
    (∀ q ∈ soundMasks, q.1 ≠ p.1 → busRead q.1 (busWrite p.1 v s) = busRead q.1 s) ∧
    busRead 0xFF26 (busWrite p.1 v s) = busRead 0xFF26 s ∧
    ∃ d, busWrite p.1 v s = { s with sound := d }) ∧
  (∀ (v : Byte) (s : State),
    busRead 0xFF26 (busWrite 0xFF26 v s) =
      (v &&& 0x80) ||| 0x70 ||| s.params.audioStatus.setWidth 8 ∧
    ∀ q ∈ soundMasks, busRead q.1 (busWrite 0xFF26 v s) = busRead q.1 s)

/-- A byte stored at an address of plain storage is read back at every address that shows it, and every other
address reads as before (R82, R84-R86, R89). A write anywhere else changes no stored byte. -/
def Obligations.StoredBytesReadBack : Prop :=
  ∀ (a : Word) (v : Byte) (s : State),
    (∀ k, storeKey a s = some k →
      busRead a (busWrite a v s) = v ∧
      (∀ b, loadKey b s = some k → busRead b (busWrite a v s) = v) ∧
      (∀ b, loadKey b s ≠ some k → busRead b (busWrite a v s) = busRead b s)) ∧
    (storeKey a s = none → ∀ k, (busWrite a v s).readKey k = s.readKey k) ∧
    (0xE000 ≤ a.toNat → a.toNat ≤ 0xFDFF →
      busWrite a v s = busWrite (a - 0x2000) v s ∧ busRead a s = busRead (a - 0x2000) s) ∧
    (∀ b k, (0x8000 ≤ a.toNat ∧ a.toNat ≤ 0x9FFF) ∨ (0xC000 ≤ a.toNat ∧ a.toNat ≤ 0xDFFF) ∨
        (0xFE00 ≤ a.toNat ∧ a.toNat ≤ 0xFE9F) ∨ (0xFF30 ≤ a.toNat ∧ a.toNat ≤ 0xFF3F) ∨
        (0xFF80 ≤ a.toNat ∧ a.toNat ≤ 0xFFFE) →
      storeKey a s = some k ∧ storeKey b s = some k → b = a ∨ b = a + 0x2000)

/-- The cartridge RAM window (R105) and its enable (R107). -/
def Obligations.CartridgeRamWindow : Prop :=
  ∀ (a : Word) (v : Byte) (s : State), 0xA000 ≤ a.toNat → a.toNat ≤ 0xBFFF →
    let k := 0x10000 + (s.cart.ramBank.toNat % max 1 (s.cart.ramSize / 8192) * 0x2000 +
      (a.toNat - 0xA000)) % s.cart.ramSize
    (0 < s.cart.ramSize ∧ (s.cart.variant = .none ∨ s.cart.ramEnable = true) →
      busRead a s = s.readKey k ∧ busWrite a v s = s.writeKey k v ∧ busRead a (busWrite a v s) = v) ∧
    (¬(0 < s.cart.ramSize ∧ (s.cart.variant = .none ∨ s.cart.ramEnable = true)) →
      busRead a s = 0xFF ∧ busWrite a v s = s)

/-- The control writes of the three bank controllers, in natural numbers (R107, R109, R112, R113): each
changes the bank state alone. -/
def Obligations.BankControllerWrites : Prop :=
  ∀ (a : Word) (v : Byte) (s : State), a.toNat ≤ 0x7FFF →
    let bank := s.cart.romBank.toNat
    let x := v.toNat
    (s.cart.variant ≠ .none → a.toNat ≤ 0x1FFF →
      busWrite a v s = { s with cart := { s.cart with ramEnable := decide (x % 16 = 10) } }) ∧
    (s.cart.variant = .A → 0x2000 ≤ a.toNat → a.toNat ≤ 0x3FFF →
      busWrite a v s = { s with cart := { s.cart with
        romBank := BitVec.ofNat 9 (32 * (bank / 32 % 4) + max 1 (x % 32)) } }) ∧
    (s.cart.variant = .A → 0x4000 ≤ a.toNat → a.toNat ≤ 0x5FFF →
      (s.cart.bankMode = 0 → busWrite a v s = { s with cart := { s.cart with
        romBank := BitVec.ofNat 9 (bank % 32 + 32 * (x % 4)) } }) ∧
      (s.cart.bankMode = 1 → busWrite a v s = { s with cart := { s.cart with
        ramBank := BitVec.ofNat 4 (x % 4) } })) ∧
    (s.cart.variant = .A → 0x6000 ≤ a.toNat →
      busWrite a v s = { s with cart := { s.cart with bankMode := BitVec.ofNat 1 (x % 2) } }) ∧
    (s.cart.variant = .B → 0x2000 ≤ a.toNat → a.toNat ≤ 0x3FFF →
      busWrite a v s = { s with cart := { s.cart with
        romBank := BitVec.ofNat 9 (max 1 (x % 128)) } }) ∧
    (s.cart.variant = .B → 0x4000 ≤ a.toNat → a.toNat ≤ 0x5FFF →
      (x ≤ 7 → busWrite a v s = { s with cart := { s.cart with ramBank := BitVec.ofNat 4 x } }) ∧
      (8 ≤ x → busWrite a v s = s)) ∧
    (s.cart.variant = .B ∨ s.cart.variant = .C → 0x6000 ≤ a.toNat → busWrite a v s = s) ∧
    (s.cart.variant = .C → 0x2000 ≤ a.toNat → a.toNat ≤ 0x2FFF →
      busWrite a v s = { s with cart := { s.cart with
        romBank := BitVec.ofNat 9 (256 * (bank / 256) +
          (if s.params.mbcCZeroRemap = true then max 1 x else x)) } }) ∧
    (s.cart.variant = .C → 0x3000 ≤ a.toNat → a.toNat ≤ 0x3FFF →
      busWrite a v s = { s with cart := { s.cart with
        romBank := BitVec.ofNat 9 (bank % 256 + 256 * (x % 2)) } }) ∧
    (s.cart.variant = .C → 0x4000 ≤ a.toNat → a.toNat ≤ 0x5FFF →
      busWrite a v s = { s with cart := { s.cart with ramBank := BitVec.ofNat 4 (x % 16) } })

/-! ## Instructions -/

/-- Every operand field: the operand each code of R142-R144 and R146 names is read and written where the spec
says. A memory operand goes through the bus; `(HL+)` and `(HL-)` move HL after the access. -/
def Obligations.OperandFields : Prop :=
  ∀ (s : State) (v : Byte) (w : Word),
    get8 .B s = s.cpu.b ∧ get8 .C s = s.cpu.c ∧ get8 .D s = s.cpu.d ∧ get8 .E s = s.cpu.e ∧
    get8 .H s = s.cpu.h ∧ get8 .L s = s.cpu.l ∧ get8 .A s = s.cpu.a ∧
    get8 .mHL s = busRead (word s.cpu.h s.cpu.l) s ∧
    set8 .B v s = { s with cpu := { s.cpu with b := v } } ∧
    set8 .C v s = { s with cpu := { s.cpu with c := v } } ∧
    set8 .D v s = { s with cpu := { s.cpu with d := v } } ∧
    set8 .E v s = { s with cpu := { s.cpu with e := v } } ∧
    set8 .H v s = { s with cpu := { s.cpu with h := v } } ∧
    set8 .L v s = { s with cpu := { s.cpu with l := v } } ∧
    set8 .A v s = { s with cpu := { s.cpu with a := v } } ∧
    set8 .mHL v s = busWrite (word s.cpu.h s.cpu.l) v s ∧
    get16 .BC s = word s.cpu.b s.cpu.c ∧ get16 .DE s = word s.cpu.d s.cpu.e ∧
    get16 .HL s = word s.cpu.h s.cpu.l ∧ get16 .SP s = s.cpu.sp ∧
    set16 .BC w s = { s with cpu := { s.cpu with b := high w, c := low w } } ∧
    set16 .DE w s = { s with cpu := { s.cpu with d := high w, e := low w } } ∧
    set16 .HL w s = { s with cpu := { s.cpu with h := high w, l := low w } } ∧
    set16 .SP w s = { s with cpu := { s.cpu with sp := w } } ∧
    getStk .BC s = word s.cpu.b s.cpu.c ∧ getStk .DE s = word s.cpu.d s.cpu.e ∧
    getStk .HL s = word s.cpu.h s.cpu.l ∧ getStk .AF s = word s.cpu.a s.cpu.f ∧
    setStk .BC w s = { s with cpu := { s.cpu with b := high w, c := low w } } ∧
    setStk .DE w s = { s with cpu := { s.cpu with d := high w, e := low w } } ∧
    setStk .HL w s = { s with cpu := { s.cpu with h := high w, l := low w } } ∧
    setStk .AF w s = { s with cpu := { s.cpu with a := high w, f := low w &&& 0xF0 } } ∧
    memAddr .BC s = word s.cpu.b s.cpu.c ∧ memAddr .DE s = word s.cpu.d s.cpu.e ∧
    memAddr .HLi s = word s.cpu.h s.cpu.l ∧ memAddr .HLd s = word s.cpu.h s.cpu.l ∧
    memPost .BC s = s ∧ memPost .DE s = s ∧
    memPost .HLi s = set16 .HL (word s.cpu.h s.cpu.l + 1) s ∧
    memPost .HLd s = set16 .HL (word s.cpu.h s.cpu.l - 1) s

/-- `LD r,r'`, `LD r,(HL)`, `LD (HL),r`, `LD r,n8` and `LD (HL),n8` (R170-R174): the destination takes the
byte, nothing else changes but the PC and the cost, and no flag does. -/
def Obligations.ByteLoads : Prop :=
  ∀ (s : State) (d r : R8) (n : Byte),
    (d ≠ .mHL → r ≠ .mHL → Runs (.ldR8 d r) [op (0x40 + 8 * r8Code d + r8Code r)] s
      (done (set8 d (get8 r s) s) (pcAfter s 1) 4)) ∧
    (d ≠ .mHL → Runs (.ldR8 d .mHL) [op (0x46 + 8 * r8Code d)] s
      (done (set8 d (busRead (word s.cpu.h s.cpu.l) s) s) (pcAfter s 1) 8)) ∧
    (r ≠ .mHL → Runs (.ldR8 .mHL r) [op (0x70 + r8Code r)] s
      (done (busWrite (word s.cpu.h s.cpu.l) (get8 r s) s) (pcAfter s 1) 8)) ∧
    (d ≠ .mHL → Runs (.ldN8 d n) [op (0x06 + 8 * r8Code d), n] s
      (done (set8 d n s) (pcAfter s 2) 8)) ∧
    Runs (.ldN8 .mHL n) [0x36, n] s
      (done (busWrite (word s.cpu.h s.cpu.l) n s) (pcAfter s 2) 12)

/-- The loads of A from memory and the stores of A to memory (R175-R188): the address, the byte, what HL
becomes, the length and the cost. -/
def Obligations.AccumulatorLoadsAndStores : Prop :=
  ∀ (s : State) (m : R16Mem) (n : Byte) (a : Word),
    let page : Byte → Word := fun x => BitVec.ofNat 16 (0xFF00 + x.toNat)
    Runs (.ldMem m) [op (0x0A + 16 * memCode m)] s
      (memPost m (doneA s (busRead (memAddr m s) s) (pcAfter s 1) 8)) ∧
    Runs (.stMem m) [op (0x02 + 16 * memCode m)] s
      (memPost m (done (busWrite (memAddr m s) s.cpu.a s) (pcAfter s 1) 8)) ∧
    Runs (.ld_A_ma16 a) [0xFA, low a, high a] s (doneA s (busRead a s) (pcAfter s 3) 16) ∧
    Runs (.ld_ma16_A a) [0xEA, low a, high a] s (done (busWrite a s.cpu.a s) (pcAfter s 3) 16) ∧
    Runs (.ldh_A_ma8 n) [0xF0, n] s (doneA s (busRead (page n) s) (pcAfter s 2) 12) ∧
    Runs (.ldh_ma8_A n) [0xE0, n] s (done (busWrite (page n) s.cpu.a s) (pcAfter s 2) 12) ∧
    Runs .ldh_A_mC [0xF2] s (doneA s (busRead (page s.cpu.c) s) (pcAfter s 1) 8) ∧
    Runs .ldh_mC_A [0xE2] s (done (busWrite (page s.cpu.c) s.cpu.a s) (pcAfter s 1) 8)

/-- Every storing instruction changes the byte or bytes it stores and no other byte of memory; the address is
the one its operand gives. -/
def Obligations.StoresChangeOnlyTheirBytes : Prop :=
  ∀ (s : State) (r : R8) (m : R16Mem) (p : R16Stk) (c : Cond) (u : U3) (o : RotOp) (n : Byte) (a : Word),
    let hl := word s.cpu.h s.cpu.l
    let v := busRead hl s
    let sp := s.cpu.sp
    (r ≠ .mHL → StoresByte (.ldR8 .mHL r) hl (get8 r s) s) ∧
    StoresByte (.ldN8 .mHL n) hl n s ∧
    StoresByte (.stMem m) (memAddr m s) s.cpu.a s ∧
    StoresByte (.ldh_ma8_A n) (BitVec.ofNat 16 (0xFF00 + n.toNat)) s.cpu.a s ∧
    StoresByte .ldh_mC_A (BitVec.ofNat 16 (0xFF00 + s.cpu.c.toNat)) s.cpu.a s ∧
    StoresByte (.ld_ma16_A a) a s.cpu.a s ∧
    StoresByte (.incR8 .mHL) hl (v + 1) s ∧
    StoresByte (.decR8 .mHL) hl (v - 1) s ∧
    StoresByte (.rotR8 o .mHL) hl (BitVec.ofNat 8 (rotate o v.toNat (flagC s).toNat).1) s ∧
    StoresByte (.resR8 u .mHL) hl (v &&& ~~~((1 : Byte) <<< u3Code u)) s ∧
    StoresByte (.setR8 u .mHL) hl (v ||| ((1 : Byte) <<< u3Code u)) s ∧
    StoresTwoBytes (.ld_ma16_SP a) a (low sp) (a + 1) (high sp) s ∧
    StoresTwoBytes (.push p) (sp - 1) (high (getStk p s)) (sp - 2) (low (getStk p s)) s ∧
    StoresTwoBytes (.call_a16 a) (sp - 1) (high (pcAfter s 3)) (sp - 2) (low (pcAfter s 3)) s ∧
    (condition c s = true →
      StoresTwoBytes (.callCC c a) (sp - 1) (high (pcAfter s 3)) (sp - 2) (low (pcAfter s 3)) s) ∧
    StoresTwoBytes (.rst u) (sp - 1) (high (pcAfter s 1)) (sp - 2) (low (pcAfter s 1)) s

/-- `LD rr,n16`, `LD (a16),SP`, `LD SP,HL` and `LD HL,SP+e8` (R202-R204, R207). -/
def Obligations.WordLoads : Prop :=
  ∀ (s : State) (rr : R16) (n : Word) (e : Byte),
    Runs (.ldR16 rr n) [op (0x01 + 16 * r16Code rr), low n, high n] s
      (done (set16 rr n s) (pcAfter s 3) 12) ∧
    Runs (.ld_ma16_SP n) [0x08, low n, high n] s
      (done (busWrite (n + 1) (high s.cpu.sp) (busWrite n (low s.cpu.sp) s)) (pcAfter s 3) 20) ∧
    Runs .ld_SP_HL [0xF9] s (done (set16 .SP (word s.cpu.h s.cpu.l) s) (pcAfter s 1) 8) ∧
    Runs (.ld_HL_SPe8 e) [0xF8, e] s
      (doneF (set16 .HL (BitVec.ofInt 16 ((s.cpu.sp.toNat : Int) + e.toInt)) s)
        (flagByte false false (decide (15 < s.cpu.sp.toNat % 16 + e.toNat % 16))
          (decide (255 < s.cpu.sp.toNat % 256 + e.toNat))) (pcAfter s 2) 12)

/-- PUSH and POP (R200, R201, R205, R206): the order and the addresses of the two bytes, SP, and what the pair
takes; a popped F loses its low nibble. -/
def Obligations.PushAndPop : Prop :=
  ∀ (s : State) (p : R16Stk),
    Runs (.push p) [op (0xC5 + 16 * stkCode p)] s (done (pushed (getStk p s) s) (pcAfter s 1) 16) ∧
    Runs (.pop p) [op (0xC1 + 16 * stkCode p)] s
      (done (setStk p (popped s) (unstacked s)) (pcAfter s 1) 12)

/-- A POP gives back what the PUSH before it stored, whichever pairs the two name, where the stack lies in
storage; F gives back its high nibble (R25, R200, R201). -/
def Obligations.PopGivesBackWhatPushStored : Prop :=
  ∀ (s : State) (p q : R16Stk) (k l : Nat),
    storeKey (s.cpu.sp - 1) s = some k → storeKey (s.cpu.sp - 2) s = some l → k ≠ l →
    ∃ t u, exec (.push p) s = .next t ∧ exec (.pop q) t = .next u ∧ u.cpu.sp = s.cpu.sp ∧
      busRead16 t.cpu.sp t = getStk p s ∧
      getStk q u = if q = .AF then getStk p s &&& 0xFFF0 else getStk p s

/-- ADD, ADC, SUB, SBC and CP, with a register, `(HL)` or an immediate (R220-R228, R235, R236). -/
def Obligations.ArithmeticSetsAAndFlags : Prop :=
  ∀ (s : State) (r : R8) (n : Byte),
    let a := s.cpu.a.toNat
    let c := (flagC s).toNat
    let m := (get8 r s).toNat
    let x := n.toNat
    let t := if r = .mHL then 8 else 4
    let code : Nat → List Byte := fun base => [op (base + r8Code r)]
    Runs (.aluR8 .add r) (code 0x80) s (doneAF s (addResult a m 0) (addFlags a m 0) (pcAfter s 1) t) ∧
    Runs (.aluR8 .adc r) (code 0x88) s (doneAF s (addResult a m c) (addFlags a m c) (pcAfter s 1) t) ∧
    Runs (.aluR8 .sub r) (code 0x90) s (doneAF s (subResult a m 0) (subFlags a m 0) (pcAfter s 1) t) ∧
    Runs (.aluR8 .sbc r) (code 0x98) s (doneAF s (subResult a m c) (subFlags a m c) (pcAfter s 1) t) ∧
    Runs (.aluR8 .cp r) (code 0xB8) s (doneF s (subFlags a m 0) (pcAfter s 1) t) ∧
    Runs (.aluN8 .add n) [0xC6, n] s (doneAF s (addResult a x 0) (addFlags a x 0) (pcAfter s 2) 8) ∧
    Runs (.aluN8 .adc n) [0xCE, n] s (doneAF s (addResult a x c) (addFlags a x c) (pcAfter s 2) 8) ∧
    Runs (.aluN8 .sub n) [0xD6, n] s (doneAF s (subResult a x 0) (subFlags a x 0) (pcAfter s 2) 8) ∧
    Runs (.aluN8 .sbc n) [0xDE, n] s (doneAF s (subResult a x c) (subFlags a x c) (pcAfter s 2) 8) ∧
    Runs (.aluN8 .cp n) [0xFE, n] s (doneF s (subFlags a x 0) (pcAfter s 2) 8)

/-- AND, XOR and OR (R229-R234): the flags are those of the result, H is 1 after AND alone. -/
def Obligations.LogicSetsAAndFlags : Prop :=
  ∀ (s : State) (r : R8) (n : Byte),
    let a := s.cpu.a
    let m := get8 r s
    let t := if r = .mHL then 8 else 4
    let flags : Byte → Bool → Byte := fun v h => flagByte (decide (v.toNat = 0)) false h false
    Runs (.aluR8 .and r) [op (0xA0 + r8Code r)] s
      (doneAF s (a &&& m) (flags (a &&& m) true) (pcAfter s 1) t) ∧
    Runs (.aluR8 .xor r) [op (0xA8 + r8Code r)] s
      (doneAF s (a ^^^ m) (flags (a ^^^ m) false) (pcAfter s 1) t) ∧
    Runs (.aluR8 .or r) [op (0xB0 + r8Code r)] s
      (doneAF s (a ||| m) (flags (a ||| m) false) (pcAfter s 1) t) ∧
    Runs (.aluN8 .and n) [0xE6, n] s (doneAF s (a &&& n) (flags (a &&& n) true) (pcAfter s 2) 8) ∧
    Runs (.aluN8 .xor n) [0xEE, n] s (doneAF s (a ^^^ n) (flags (a ^^^ n) false) (pcAfter s 2) 8) ∧
    Runs (.aluN8 .or n) [0xF6, n] s (doneAF s (a ||| n) (flags (a ||| n) false) (pcAfter s 2) 8)

/-- INC and DEC of a register or of `(HL)` (R237-R240): C is kept. -/
def Obligations.IncrementAndDecrement : Prop :=
  ∀ (s : State) (r : R8),
    let v := (get8 r s).toNat
    let up := (v + 1) % 256
    let down := (v + 255) % 256
    let t := if r = .mHL then 12 else 4
    Runs (.incR8 r) [op (0x04 + 8 * r8Code r)] s
      (doneF (set8 r (BitVec.ofNat 8 up) s)
        (flagByte (decide (up = 0)) false (decide (v % 16 = 15)) (flagC s)) (pcAfter s 1) t) ∧
    Runs (.decR8 r) [op (0x05 + 8 * r8Code r)] s
      (doneF (set8 r (BitVec.ofNat 8 down) s)
        (flagByte (decide (down = 0)) true (decide (v % 16 = 0)) (flagC s)) (pcAfter s 1) t)

/-- DAA, CPL, SCF and CCF (R241-R244). -/
def Obligations.AccumulatorAdjustments : Prop :=
  ∀ s : State,
    let a := s.cpu.a.toNat
    let addHigh := flagC s || decide (0x99 < a)
    let addLow := flagH s || decide (9 < a % 16)
    let sum := (a + 96 * addHigh.toNat + 6 * addLow.toNat) % 256
    let diff := (a + 256 - 96 * (flagC s).toNat - 6 * (flagH s).toNat) % 256
    (flagN s = false → Runs .daa [0x27] s
      (doneAF s (BitVec.ofNat 8 sum) (flagByte (decide (sum = 0)) false false addHigh) (pcAfter s 1) 4)) ∧
    (flagN s = true → Runs .daa [0x27] s
      (doneAF s (BitVec.ofNat 8 diff) (flagByte (decide (diff = 0)) true false (flagC s))
        (pcAfter s 1) 4)) ∧
    Runs .cpl [0x2F] s
      (doneAF s (BitVec.ofNat 8 (255 - a)) (flagByte (flagZ s) true true (flagC s)) (pcAfter s 1) 4) ∧
    Runs .scf [0x37] s (doneF s (flagByte (flagZ s) false false true) (pcAfter s 1) 4) ∧
    Runs .ccf [0x3F] s (doneF s (flagByte (flagZ s) false false (!flagC s)) (pcAfter s 1) 4)

/-- DAA makes decimal arithmetic of ADC and SBC: on two-digit decimal bytes, with the carry or borrow of the
digits before, the pair gives the decimal sum or difference and its carry or borrow. -/
def Obligations.DaaCorrectsDecimalArithmetic : Prop :=
  ∀ (s : State) (x y : Nat), x < 100 → y < 100 → s.cpu.a = bcd x →
    let c := (flagC s).toNat
    (∃ t u, exec (.aluN8 .adc (bcd y)) s = .next t ∧ exec .daa t = .next u ∧
      u.cpu.a = bcd ((x + y + c) % 100) ∧ flagC u = decide (100 ≤ x + y + c) ∧
      flagZ u = decide ((x + y + c) % 100 = 0)) ∧
    (∃ t u, exec (.aluN8 .sbc (bcd y)) s = .next t ∧ exec .daa t = .next u ∧
      u.cpu.a = bcd ((x + 100 - y - c) % 100) ∧ flagC u = decide (x < y + c) ∧
      flagZ u = decide ((x + 100 - y - c) % 100 = 0))

/-- `ADD HL,rr`, `INC rr`, `DEC rr` and `ADD SP,e8` (R260-R263). -/
def Obligations.WordArithmetic : Prop :=
  ∀ (s : State) (rr : R16) (e : Byte),
    let h := (word s.cpu.h s.cpu.l).toNat
    let v := (get16 rr s).toNat
    let sp := s.cpu.sp.toNat
    Runs (.addHL rr) [op (0x09 + 16 * r16Code rr)] s
      (doneF (set16 .HL (BitVec.ofNat 16 ((h + v) % 65536)) s)
        (flagByte (flagZ s) false (decide (4095 < h % 4096 + v % 4096)) (decide (65535 < h + v)))
        (pcAfter s 1) 8) ∧
    Runs (.incR16 rr) [op (0x03 + 16 * r16Code rr)] s
      (done (set16 rr (BitVec.ofNat 16 ((v + 1) % 65536)) s) (pcAfter s 1) 8) ∧
    Runs (.decR16 rr) [op (0x0B + 16 * r16Code rr)] s
      (done (set16 rr (BitVec.ofNat 16 ((v + 65535) % 65536)) s) (pcAfter s 1) 8) ∧
    Runs (.add_SP_e8 e) [0xE8, e] s
      (doneF (set16 .SP (BitVec.ofInt 16 ((sp : Int) + e.toInt)) s)
        (flagByte false false (decide (15 < sp % 16 + e.toNat % 16))
          (decide (255 < sp % 256 + e.toNat))) (pcAfter s 2) 16)

/-- The rotates of A, whose Z is always 0, and the prefixed rotates, shifts and SWAP, whose Z is the zero test
(R270-R282). -/
def Obligations.RotatesAndShifts : Prop :=
  ∀ (s : State) (o : RotOp) (r : R8),
    let c := (flagC s).toNat
    let acc : RotOp → State := fun o =>
      doneAF s (BitVec.ofNat 8 (rotate o s.cpu.a.toNat c).1)
        (flagByte false false false (decide ((rotate o s.cpu.a.toNat c).2 = 1))) (pcAfter s 1) 4
    let v := (get8 r s).toNat
    Runs .rlca [0x07] s (acc .rlc) ∧ Runs .rrca [0x0F] s (acc .rrc) ∧
    Runs .rla [0x17] s (acc .rl) ∧ Runs .rra [0x1F] s (acc .rr) ∧
    Runs (.rotR8 o r) [0xCB, op (8 * rotCode o + r8Code r)] s
      (doneF (set8 r (BitVec.ofNat 8 (rotate o v c).1) s)
        (flagByte (decide ((rotate o v c).1 = 0)) false false (decide ((rotate o v c).2 = 1)))
        (pcAfter s 2) (if r = .mHL then 16 else 8))

/-- BIT, RES and SET (R283-R285): BIT writes flags alone; RES and SET write the operand with that one bit
changed, and no flag. -/
def Obligations.BitInstructions : Prop :=
  ∀ (s : State) (u : U3) (r : R8),
    let v := get8 r s
    Runs (.bitR8 u r) [0xCB, op (0x40 + 8 * u3Code u + r8Code r)] s
      (doneF s (flagByte (!v.getLsbD (u3Code u)) false true (flagC s)) (pcAfter s 2)
        (if r = .mHL then 12 else 8)) ∧
    (∃ w : Byte, (∀ j, w.getLsbD j = (decide (j ≠ u3Code u) && v.getLsbD j)) ∧
      Runs (.resR8 u r) [0xCB, op (0x80 + 8 * u3Code u + r8Code r)] s
        (done (set8 r w s) (pcAfter s 2) (if r = .mHL then 16 else 8))) ∧
    (∃ w : Byte, (∀ j, w.getLsbD j = (decide (j = u3Code u) || v.getLsbD j)) ∧
      Runs (.setR8 u r) [0xCB, op (0xC0 + 8 * u3Code u + r8Code r)] s
        (done (set8 r w s) (pcAfter s 2) (if r = .mHL then 16 else 8)))

/-- JP, JP HL and JR, taken or not (R300-R304). -/
def Obligations.Jumps : Prop :=
  ∀ (s : State) (c : Cond) (a : Word) (e : Byte),
    let target : Word := BitVec.ofInt 16 (((pcAfter s 2).toNat : Int) + e.toInt)
    Runs (.jp_a16 a) [0xC3, low a, high a] s (done s a 16) ∧
    Runs (.jpCC c a) [op (0xC2 + 8 * ccCode c), low a, high a] s
      (if condition c s = true then done s a 16 else done s (pcAfter s 3) 12) ∧
    Runs .jp_HL [0xE9] s (done s (word s.cpu.h s.cpu.l) 4) ∧
    Runs (.jr_e8 e) [0x18, e] s (done s target 12) ∧
    Runs (.jrCC c e) [op (0x20 + 8 * ccCode c), e] s
      (if condition c s = true then done s target 12 else done s (pcAfter s 2) 8)

/-- CALL, RET, RETI and RST, taken or not (R305-R310). -/
def Obligations.CallsAndReturns : Prop :=
  ∀ (s : State) (c : Cond) (u : U3) (a : Word),
    let returned : Nat → State := fun cost => done (unstacked s) (popped s) cost
    Runs (.call_a16 a) [0xCD, low a, high a] s (done (pushed (pcAfter s 3) s) a 24) ∧
    Runs (.callCC c a) [op (0xC4 + 8 * ccCode c), low a, high a] s
      (if condition c s = true then done (pushed (pcAfter s 3) s) a 24
      else done s (pcAfter s 3) 12) ∧
    Runs .ret [0xC9] s (returned 16) ∧
    Runs (.retCC c) [op (0xC0 + 8 * ccCode c)] s
      (if condition c s = true then returned 20 else done s (pcAfter s 1) 8) ∧
    Runs .reti [0xD9] s { returned 16 with cpu := { (returned 16).cpu with ime := true } } ∧
    Runs (.rst u) [op (0xC7 + 8 * u3Code u)] s
      (done (pushed (pcAfter s 1) s) (BitVec.ofNat 16 (8 * u3Code u)) 16)

/-- A return undoes the call or the interrupt entry before it, where the stack lies in storage: PC, SP and
every other register are back, and after RETI IME is set again (R305, R307, R309, R414). -/
def Obligations.ReturnsUndoCallsAndInterrupts : Prop :=
  ∀ (s : State) (k l : Nat),
    storeKey (s.cpu.sp - 1) s = some k → storeKey (s.cpu.sp - 2) s = some l → k ≠ l →
    (∀ a : Word, ∃ t v, exec (.call_a16 a) s = .next t ∧ t.cpu.pc = a ∧ exec .ret t = .next v ∧
      v.cpu = { s.cpu with pc := pcAfter s 3, haltBugPending := false }) ∧
    (∀ u : U3, ∃ t v, exec (.rst u) s = .next t ∧ t.cpu.pc.toNat = 8 * u3Code u ∧
      exec .ret t = .next v ∧ v.cpu = { s.cpu with pc := pcAfter s 1, haltBugPending := false }) ∧
    (s.cpu.runState = .running → s.cpu.ime = true → interruptPending s →
      ∃ t v, cpuStep s = .next t ∧ t.cpu.ime = false ∧ exec .reti t = .next v ∧
        v.cpu = { s.cpu with haltBugPending := false } ∧
        ∀ j, j ≠ k → j ≠ l → v.readKey j = s.readKey j)

/-- NOP, HALT, DI and EI (R320-R324), with the halt bug in its three modes and EI in its two. -/
def Obligations.CpuControl : Prop :=
  ∀ s : State,
    let next := done s (pcAfter s 1) 4
    let halted : State := { next with cpu := { next.cpu with runState := .halted } }
    Runs .nop [0x00] s next ∧
    (¬(s.cpu.ime = false ∧ interruptPending s) → Runs .halt [0x76] s halted) ∧
    (s.cpu.ime = false → interruptPending s → s.params.haltBugMode = .skip2 →
      Runs .halt [0x76] s (done s (s.cpu.pc + 2) 4)) ∧
    (s.cpu.ime = false → interruptPending s → s.params.haltBugMode = .replay →
      Runs .halt [0x76] s { next with cpu := { next.cpu with haltBugPending := true } }) ∧
    (s.cpu.ime = false → interruptPending s → s.params.haltBugMode = .ignore →
      Runs .halt [0x76] s halted) ∧
    Runs .di [0xF3] s { next with cpu := { next.cpu with ime := false, eiPending := false } } ∧
    (s.params.eiDelay = false →
      Runs .ei [0xFB] s { next with cpu := { next.cpu with ime := true } }) ∧
    (s.params.eiDelay = true →
      Runs .ei [0xFB] s { next with cpu := { next.cpu with eiPending := true } })

/-- STOP and the illegal bytes raise the faults the spec names, with the PC and the byte (R326, R327, R400);
recording one changes nothing else, but for the overlay check that came before the fetch (R96), which the
recorded state keeps done: the model's choice (notes/assumptions/9.md). The prefix runs the CB-table
instruction its second byte selects, which completes (R325); that the prefix has a constructor of its own,
with a meaning in `exec`, is the model's choice too (notes/assumptions/10.md). -/
def Obligations.FaultingBytesAndThePrefix : Prop :=
  ∀ s : State,
    (∀ b : Byte, encode (.stop b) = [0x10, b] ∧ exec (.stop b) s = .fault (.unmodelled s.cpu.pc 0x10)) ∧
    (∀ p ∈ illegalInstrs, encode p.2 = [p.1] ∧ exec p.2 s = .fault (.illegalOpcode s.cpu.pc p.1)) ∧
    illegalInstrs.map (fun p => p.1) = illegalBytes ∧
    (s.fault = none → ∀ r : Fault, recordFault r s = { overlaySeen s with fault := some r }) ∧
    ∃ i t, decode [0xCB, busRead (fetchAt s 1) s] = .ok (i, []) ∧ exec .prefix_CB s = exec i s ∧
      exec .prefix_CB s = .next t

/-! ## The devices -/

/-- A device step fed `c` cycles ends where the loops of R430 and R431 end; TIMA is held while its start bit is
0 (R432). -/
def Obligations.TimersRunTheSpecsLoops : Prop :=
  ∀ (c : Nat) (s : State),
    DividerLoop { s with timer := { s.timer with divAcc := s.timer.divAcc + c } } (dividerStep c s) ∧
    (s.timer.tac.getLsbD 2 = true →
      TimaLoop { s with timer := { s.timer with timaAcc := s.timer.timaAcc + c } } (timaStep c s)) ∧
    (s.timer.tac.getLsbD 2 = false → timaStep c s = s) ∧
    timerStep c s = timaStep c (dividerStep c s)

/-- OAM DMA (R436): nothing is copied while the countdown runs; when it ends, every OAM byte takes the byte
the bus showed at its source address before the copy, and nothing else changes. -/
def Obligations.DmaCopiesAtTheEndOfTheCountdown : Prop :=
  ∀ (c : Nat) (s : State),
    (s.dma.active = false → dmaStep c s = s) ∧
    (s.dma.active = true → c < s.dma.remaining →
      dmaStep c s = { s with dma := { s.dma with remaining := s.dma.remaining - c } }) ∧
    (s.dma.active = true → s.dma.remaining ≤ c →
      ∃ m : Memory, dmaStep c s =
          { s with dma := { s.dma with active := false, remaining := 0 }, mem := m } ∧
        (∀ i < 160, Memory.read m (0xFE00 + i) = busRead (word s.dma.page (BitVec.ofNat 8 i)) s) ∧
        ∀ k, k < 0xFE00 ∨ 0xFEA0 ≤ k → Memory.read m k = s.readKey k)

/-- The four transitions (R443-R449): the mode, LY, the compare flag, and every request bit each sets. -/
def Obligations.PpuModeTransitions : Prop :=
  ∀ s : State,
    let p := s.ppu
    let stat : Nat → Byte := fun k => if p.statEnables.getLsbD k then 0x02 else 0x00
    let request : Byte → State → State := fun v t => { t with irq := { t.irq with req := s.irq.req ||| v } }
    let atLine : Byte → State := fun n => { s with
      ppu := { p with ly := n, lycEqual := decide (n = p.lyc), mode := .oamSearch } }
    let compare : Byte → Byte := fun n => if n = p.lyc then stat 6 else 0x00
    (p.mode = .oamSearch → transition s = { s with ppu := { p with mode := .pixelTransfer } }) ∧
    (p.mode = .pixelTransfer → transition s =
      request (stat 3) { renderLine p.ly.toNat s with
        ppu := { (renderLine p.ly.toNat s).ppu with mode := .hBlank } }) ∧
    (p.mode = .hBlank → p.ly + 1 = 144 → transition s =
      request (compare 144 ||| 0x01 ||| stat 4) { s with
        ppu := { p with ly := 144, lycEqual := decide (144 = p.lyc), mode := .vBlank } }) ∧
    (p.mode = .hBlank → p.ly + 1 ≠ 144 → transition s =
      request (compare (p.ly + 1) ||| stat 5) (gatherSprites (atLine (p.ly + 1)))) ∧
    (p.mode = .vBlank → p.ly.toNat < 153 → transition s =
      request (compare (p.ly + 1)) { s with
        ppu := { p with ly := p.ly + 1, lycEqual := decide (p.ly + 1 = p.lyc) } }) ∧
    (p.mode = .vBlank → 153 ≤ p.ly.toNat → transition s =
      request (compare 0 ||| stat 5) (gatherSprites (atLine 0)))

/-- PpuStep is the loop of R440, and with the display off it is DisplayOff (R441). -/
def Obligations.PpuStepRunsTheSpecsLoop : Prop :=
  ∀ (c : Nat) (s : State),
    (s.ppu.lcdc.getLsbD 7 = false → ppuStep c s = { s with
      ppu := { s.ppu with ly := 0, lycEqual := decide (s.ppu.lyc = 0), mode := .oamSearch, acc := 0,
                          displayWasOff := true } }) ∧
    (s.ppu.lcdc.getLsbD 7 = true →
      let u := if s.ppu.displayWasOff then
          gatherSprites { s with ppu := { s.ppu with displayWasOff := false } }
        else s
      PpuLoop { u with ppu := { u.ppu with acc := u.ppu.acc + c } } (ppuStep c s))

/-- With the display on, `c` cycles move the sequencer `c` cycles on in its frame of 70224 cycles, from every
mode, line and accumulator that R8 and R49 allow (R440-R447). -/
def Obligations.FramePositionAdvancesWithTheCycles : Prop :=
  ∀ (c : Nat) (s : State), s.ppu.lcdc.getLsbD 7 = true → ppuAccBounded s → scanlineInRange s →
    ppuAccBounded (ppuStep c s) ∧ scanlineInRange (ppuStep c s) ∧
      framePosition (ppuStep c s) = (framePosition s + c) % 70224

/-- With the display on, a PPU step raises the VBlank request exactly when it passes the start of line 144,
456 * 144 cycles into the frame (R445). -/
def Obligations.VBlankIsRequestedAtLine144 : Prop :=
  ∀ (c : Nat) (s : State), s.ppu.lcdc.getLsbD 7 = true → ppuAccBounded s → scanlineInRange s →
    ((ppuStep c s).irq.req.getLsbD 0 = true ↔
      s.irq.req.getLsbD 0 = true ∨ ∃ m, 0 < m ∧ m ≤ c ∧ (framePosition s + m) % 70224 = 65664)

/-- GatherSprites (R448): the entries on the line, in OAM order and cut by SPRITE_LIMIT, parted by their
behind-background bit, each part sorted by X with ties in OAM order. -/
def Obligations.SpriteListsAreGathered : Prop :=
  ∀ s : State,
    let onLine : OamEntry → Bool := fun e =>
      decide (e.y.toNat ≤ s.ppu.ly.toNat + 16 ∧ s.ppu.ly.toNat + 16 < e.y.toNat + height s)
    let all := ((List.range 40).map (entryAt s)).filter onLine
    let kept := match s.params.spriteLimit with
      | some n => all.take n
      | none => all
    ∃ behind normal : List OamEntry,
      gatherSprites s = { s with
        ppu := { s.ppu with spritesBehind := behind, spritesNormal := normal } } ∧
      StablySortedByX (kept.filter (fun e => e.flags.getLsbD 7)) behind ∧
      StablySortedByX (kept.filter (fun e => !e.flags.getLsbD 7)) normal

/-- RenderLine (R450-R455): every pixel of the line is the spec's composite of window, background and sprites,
computed in integers from the bytes the bus shows; no other pixel and nothing else changes. A pixel is its
shade, the model's choice of form (notes/assumptions/8.md). -/
def Obligations.PixelsOfALine : Prop :=
  ∀ (s : State) (ly : Nat), ly < 144 → frameShaped s →
    ∃ row : List Shade,
      renderLine ly s = { s with ppu := { s.ppu with framebuffer := s.ppu.framebuffer.set ly row } } ∧
      row.length = 160 ∧ ∀ x < 160, (row.getD x 0).toNat = pixelShade s x ly

/-! ## The host interface -/

/-- Press and release (R471), and a reset that is the whole load again (R503). -/
def Obligations.HostActions : Prop :=
  (∀ (k : Button) (s : State),
    press k s = { s with
      buttons := (press k s).buttons, irq := { s.irq with req := s.irq.req ||| 0x10 } } ∧
    release k s = { s with buttons := (release k s).buttons } ∧
    isPressed k (press k s) = true ∧ isPressed k (release k s) = false ∧
    ∀ j, j ≠ k → isPressed j (press k s) = isPressed j s ∧ isPressed j (release k s) = isPressed j s) ∧
  (∀ (args : LoadArgs) (x : Session) (acts : List HostAction), startSession args = .ok x →
    (acts.foldl (fun y k => y.act k) x).act .reset = x)

/-- The load faults (R100-R103, R400): a missing image, a short one, and a header byte that the load's table
does not list; every other image loads. The default tables are those of R100-R102. Which of several bad bytes
is reported is the model's choice (notes/assumptions/2.md), and not stated. -/
def Obligations.LoadFaults : Prop :=
  (∀ args : LoadArgs,
    (args.image = none → load args = .error .missingImage) ∧
    ∀ image, args.image = some image →
      (image.length < 0x150 → load args = .error (.truncatedHeader image.length)) ∧
      (0x150 ≤ image.length →
        let t := args.tables
        let cartType := imageByte image 0x147
        let romSize := imageByte image 0x148
        let ramSize := imageByte image 0x149
        (¬Unlisted t.cartTypes cartType → ¬Unlisted t.romSizes romSize → ¬Unlisted t.ramSizes ramSize →
          ∃ s, load args = .ok s) ∧
        (Unlisted t.cartTypes cartType → ¬Unlisted t.romSizes romSize → ¬Unlisted t.ramSizes ramSize →
          load args = .error (.unsupportedCartType cartType)) ∧
        (¬Unlisted t.cartTypes cartType → Unlisted t.romSizes romSize → ¬Unlisted t.ramSizes ramSize →
          load args = .error (.unsupportedRomSize romSize)) ∧
        (¬Unlisted t.cartTypes cartType → ¬Unlisted t.romSizes romSize → Unlisted t.ramSizes ramSize →
          load args = .error (.unsupportedRamSize ramSize)) ∧
        (Unlisted t.cartTypes cartType ∨ Unlisted t.romSizes romSize ∨ Unlisted t.ramSizes ramSize →
          ∃ r, load args = .error r))) ∧
  HeaderTables.default.cartTypes = cartTypes ∧ HeaderTables.default.ramSizes = ramSizes ∧
  ∀ (b : Byte) (n : Nat), (b, n) ∈ HeaderTables.default.romSizes ↔ b.toNat ≤ 8 ∧ n = 32768 * 2 ^ b.toNat

/-- What a load puts in the cartridge (R54, R95, R100-R103, R114): the variant and the sizes that the load's
tables give the header bytes, which with the default tables are those of R100-R102; the bank state of R114,
the image padded with 0xFF or cut to the ROM size, and the overlay where one is given. -/
def Obligations.LoadedCartridge : Prop :=
  ∀ (args : LoadArgs) (image : List Byte) (s : State), args.image = some image → load args = .ok s →
    args.tables.cartTypes.lookup (imageByte image 0x147) = some s.cart.variant ∧
    args.tables.romSizes.lookup (imageByte image 0x148) = some s.cart.romSize ∧
    args.tables.ramSizes.lookup (imageByte image 0x149) = some s.cart.ramSize ∧
    (args.tables = HeaderTables.default →
      (imageByte image 0x147, s.cart.variant) ∈ cartTypes ∧
      s.cart.romSize = 32768 * 2 ^ (imageByte image 0x148).toNat ∧
      s.cart.romBanks = 2 * 2 ^ (imageByte image 0x148).toNat ∧
      (imageByte image 0x149, s.cart.ramSize) ∈ ramSizes) ∧
    s.cart.romBank = 1 ∧ s.cart.ramBank = 0 ∧ s.cart.ramEnable = false ∧ s.cart.bankMode = 0 ∧
    (∀ i < s.cart.romSize, s.readKey (romBase + i) = imageByte image i) ∧
    ∀ v : Vector Byte 256, args.overlay = some v → ∀ i : Fin 256, s.readKey i = v.get i

/-- The power-on state without the overlay (R56, R57, R59), read through the bus where the spec gives a read
value, and with it (R58, R500, R502); the parameters are the session's. Two clauses are the model's choice: a
pixel is its shade (notes/assumptions/8.md), and no DMA is active after a load with the overlay
(notes/assumptions/6.md). -/
def Obligations.PowerOnState : Prop :=
  ∀ (args : LoadArgs) (s : State), load args = .ok s →
    s.cpu.ime = false ∧ s.cpu.runState = .running ∧ s.cpu.eiPending = false ∧
    s.cpu.haltBugPending = false ∧ s.fault = none ∧ s.buttons = Buttons.none ∧ s.params = args.params ∧
    s.timer.divAcc = 0 ∧ s.timer.timaAcc = 0 ∧ s.ppu.ly = 0 ∧ s.ppu.acc = 0 ∧ s.ppu.mode = .oamSearch ∧
    s.ppu.displayWasOff = false ∧ s.dma.active = false ∧ gatherSprites s = s ∧
    s.ppu.framebuffer = List.replicate 144 (List.replicate 160 0) ∧
    (args.overlay = none →
      word s.cpu.a s.cpu.f = 0x01B0 ∧ word s.cpu.b s.cpu.c = 0x0013 ∧ word s.cpu.d s.cpu.e = 0x00D8 ∧
      word s.cpu.h s.cpu.l = 0x014D ∧ s.cpu.sp = 0xFFFE ∧ s.cpu.pc = 0x0100 ∧
      s.overlayActive = false ∧ s.ppu.lycEqual = true ∧
      busRead 0xFF00 s &&& 0xF0 = 0xC0 ∧
      (args.params.joypadRead = .matrix → busRead 0xFF00 s = 0xCF) ∧
      (∀ p ∈ ([(0xFF01, 0x00), (0xFF02, 0x7E), (0xFF04, 0xAB), (0xFF05, 0x00),
          (0xFF06, 0x00), (0xFF07, 0xF8), (0xFF0F, 0xE1), (0xFFFF, 0x00), (0xFF40, 0x91),
          (0xFF41, 0x86), (0xFF42, 0x00), (0xFF43, 0x00), (0xFF44, 0x00), (0xFF45, 0x00),
          (0xFF46, 0xFF), (0xFF47, 0xFC), (0xFF4A, 0x00), (0xFF4B, 0x00)] : List (Word × Byte)),
        busRead p.1 s = p.2) ∧
      (∀ p ∈ ([(0xFF10, 0x80), (0xFF11, 0xBF), (0xFF12, 0xF3), (0xFF13, 0xFF), (0xFF14, 0xBF),
          (0xFF16, 0x3F), (0xFF17, 0x00), (0xFF18, 0xFF), (0xFF19, 0xBF), (0xFF1A, 0x7F),
          (0xFF1B, 0xFF), (0xFF1C, 0x9F), (0xFF1D, 0xFF), (0xFF1E, 0xBF), (0xFF20, 0xFF),
          (0xFF21, 0x00), (0xFF22, 0x00), (0xFF23, 0xBF), (0xFF24, 0x77), (0xFF25, 0xF3)] :
          List (Word × Byte)),
        busRead p.1 s = p.2 ∧ (soundSnapshot s).getD (p.1.toNat - 0xFF10) 0 = p.2) ∧
      busRead 0xFF26 s = 0xF0 ||| args.params.audioStatus.setWidth 8) ∧
    (∀ v, args.overlay = some v →
      s.cpu.pc = 0x0000 ∧ s.overlayActive = true ∧ s.cpu.f = args.values.bootRegs.f &&& 0xF0 ∧
      s.cpu.a = args.values.bootRegs.a ∧ s.cpu.b = args.values.bootRegs.b ∧
      s.cpu.c = args.values.bootRegs.c ∧ s.cpu.d = args.values.bootRegs.d ∧
      s.cpu.e = args.values.bootRegs.e ∧ s.cpu.h = args.values.bootRegs.h ∧
      s.cpu.l = args.values.bootRegs.l ∧ s.cpu.sp = args.values.bootRegs.sp ∧ s.timer.div = 0)

/-! ## The cost table -/

/-- What a CPU step computes does not depend on `CYCLES` (R531): with any other table an instruction, and a
whole CPU step, end in the same state but for the table and the cost reported, or in the same fault. -/
def Obligations.ResultsDoNotDependOnCycles : Prop :=
  ∀ (s : State) (c : CycleTable),
    (∀ (i : Instr) (t : State), exec i s = .next t →
      ∃ n, exec i (s.withCycles c) = .next { t.withCycles c with cycles := n }) ∧
    (∀ (i : Instr) (r : Fault), exec i s = .fault r → exec i (s.withCycles c) = .fault r) ∧
    (∀ t : State, cpuStep s = .next t →
      ∃ n, cpuStep (s.withCycles c) = .next { t.withCycles c with cycles := n }) ∧
    ∀ r : Fault, cpuStep s = .fault r → cpuStep (s.withCycles c) = .fault r

end Statements
end

