-- ==== Sys2Proof/Laws/Memory.lean ====
section
/-! SUPPORT. The laws of the byte store: reading after writing, and the canonical form, which every operation
keeps and in which equal contents are equal lists. -/

namespace Sys2Proof.Machine

/-! ## Reading -/

theorem read_erase_same (m : Memory) (k : Nat) : Memory.read (Memory.erase m k) k = unlisted k := by
  induction m with
  | nil => rfl
  | cons c m ih =>
    obtain ⟨a, v⟩ := c
    by_cases h : a = k <;> simp [Memory.erase, Memory.read, h, ih]

theorem read_erase_other (m : Memory) {j k : Nat} (h : j ≠ k) :
    Memory.read (Memory.erase m k) j = Memory.read m j := by
  induction m with
  | nil => rfl
  | cons c m ih =>
    obtain ⟨a, v⟩ := c
    by_cases hk : a = k
    · subst hk; simp [Memory.erase, Memory.read, ih, Ne.symm h]
    · simp [Memory.erase, Memory.read, hk, ih]

/-- Every key of the cells is one that `P` allows. -/
def KeysSatisfy (P : Nat → Prop) (m : Memory) : Prop := ∀ c ∈ m, P c.1

theorem erase_keys_ne (m : Memory) (k : Nat) : KeysSatisfy (· ≠ k) (Memory.erase m k) := by
  induction m with
  | nil => simp [KeysSatisfy, Memory.erase]
  | cons c m ih =>
    obtain ⟨a, v⟩ := c
    by_cases hk : a = k
    · simpa [Memory.erase, hk] using ih
    · simpa [Memory.erase, hk, KeysSatisfy] using ih

theorem read_insert_same (m : Memory) (k : Nat) (v : Byte) (h : KeysSatisfy (· ≠ k) m) :
    Memory.read (Memory.insert m k v) k = v := by
  induction m with
  | nil => simp [Memory.insert, Memory.read]
  | cons c m ih =>
    obtain ⟨a, w⟩ := c
    have ha : a ≠ k := h (a, w) (by simp)
    have hm : KeysSatisfy (· ≠ k) m := fun c hc => h c (by simp [hc])
    by_cases hlt : a < k <;> simp [Memory.insert, Memory.read, hlt, ha, ih hm]

theorem read_insert_other (m : Memory) {j k : Nat} (v : Byte) (h : j ≠ k) :
    Memory.read (Memory.insert m k v) j = Memory.read m j := by
  induction m with
  | nil => simp [Memory.insert, Memory.read, Ne.symm h]
  | cons c m ih =>
    obtain ⟨a, w⟩ := c
    by_cases hlt : a < k <;> simp [Memory.insert, Memory.read, hlt, ih, Ne.symm h]

theorem read_write_same (m : Memory) (k : Nat) (v : Byte) : Memory.read (Memory.write m k v) k = v := by
  by_cases h : v = unlisted k
  · simp [Memory.write, h, read_erase_same]
  · simp [Memory.write, h, read_insert_same _ _ _ (erase_keys_ne m k)]

theorem read_write_other (m : Memory) {j k : Nat} (v : Byte) (h : j ≠ k) :
    Memory.read (Memory.write m k v) j = Memory.read m j := by
  by_cases hv : v = unlisted k
  · simp [Memory.write, hv, read_erase_other m h]
  · simp [Memory.write, hv, read_insert_other _ v h, read_erase_other m h]

/-- What a write does to every read. -/
theorem read_write (m : Memory) (j k : Nat) (v : Byte) :
    Memory.read (Memory.write m k v) j = if j = k then v else Memory.read m j := by
  by_cases h : j = k
  · subst h; simp [read_write_same]
  · simp [h, read_write_other m v h]

@[simp] theorem readKey_writeKey_same (s : State) (k : Nat) (v : Byte) :
    (s.writeKey k v).readKey k = v := read_write_same s.mem k v

theorem readKey_writeKey_other (s : State) {j k : Nat} (v : Byte) (h : j ≠ k) :
    (s.writeKey k v).readKey j = s.readKey j := read_write_other s.mem v h

theorem readKey_writeKey (s : State) (j k : Nat) (v : Byte) :
    (s.writeKey k v).readKey j = if j = k then v else s.readKey j := read_write s.mem j k v

/-! ## Canonical form -/

theorem wfFrom_mono {lo hi : Nat} {m : Memory} (h : lo ≤ hi) (hm : Memory.wfFrom hi m = true) :
    Memory.wfFrom lo m = true := by
  cases m with
  | nil => rfl
  | cons c m =>
    obtain ⟨a, v⟩ := c
    simp only [Memory.wfFrom, Bool.and_eq_true, decide_eq_true_eq] at hm ⊢
    exact ⟨⟨le_trans h hm.1.1, hm.1.2⟩, hm.2⟩

theorem wfFrom_erase {lo : Nat} {m : Memory} (k : Nat) (h : Memory.wfFrom lo m = true) :
    Memory.wfFrom lo (Memory.erase m k) = true := by
  induction m generalizing lo with
  | nil => rfl
  | cons c m ih =>
    obtain ⟨a, v⟩ := c
    simp only [Memory.wfFrom, Bool.and_eq_true, decide_eq_true_eq] at h
    by_cases hk : a = k
    · simp only [Memory.erase, hk, if_true]
      exact wfFrom_mono (by omega) (ih h.2)
    · simp only [Memory.erase, hk, if_false, Memory.wfFrom, Bool.and_eq_true, decide_eq_true_eq]
      exact ⟨h.1, ih h.2⟩

theorem wfFrom_insert {lo : Nat} {m : Memory} {k : Nat} {v : Byte} (hlo : lo ≤ k)
    (hv : v ≠ unlisted k) (hne : KeysSatisfy (· ≠ k) m) (h : Memory.wfFrom lo m = true) :
    Memory.wfFrom lo (Memory.insert m k v) = true := by
  induction m generalizing lo with
  | nil => simp [Memory.insert, Memory.wfFrom, hlo, hv]
  | cons c m ih =>
    obtain ⟨a, w⟩ := c
    have ha : a ≠ k := hne (a, w) (by simp)
    have hm : KeysSatisfy (· ≠ k) m := fun c hc => hne c (by simp [hc])
    simp only [Memory.wfFrom, Bool.and_eq_true, decide_eq_true_eq] at h
    by_cases hlt : a < k
    · simp only [Memory.insert, hlt, if_true, Memory.wfFrom, Bool.and_eq_true, decide_eq_true_eq]
      exact ⟨h.1, ih (by omega) hm h.2⟩
    · simp only [Memory.insert, hlt, if_false, Memory.wfFrom, Bool.and_eq_true, decide_eq_true_eq]
      exact ⟨⟨hlo, hv⟩, ⟨by omega, h.1.2⟩, h.2⟩

/-- A write keeps the canonical form. -/
theorem wf_write {m : Memory} (k : Nat) (v : Byte) (h : Memory.wf m = true) :
    Memory.wf (Memory.write m k v) = true := by
  by_cases hv : v = unlisted k
  · simpa [Memory.write, hv, Memory.wf] using wfFrom_erase k h
  · simpa [Memory.write, hv, Memory.wf] using
      wfFrom_insert (Nat.zero_le k) hv (erase_keys_ne m k) (wfFrom_erase k h)

/-- The memory built from any cells is canonical. -/
theorem wf_ofCells (cells : List Host.Cell) : Memory.wf (Memory.ofCells cells) = true := by
  suffices h : ∀ m : Memory, Memory.wf m = true →
      Memory.wf (cells.foldl (fun m c => Memory.write m c.1 c.2) m) = true from h [] rfl
  induction cells with
  | nil => exact fun m h => h
  | cons c cells ih => exact fun m h => ih _ (wf_write _ _ h)

theorem wfFrom_cellsFrom (lo k : Nat) (vs : List Byte) (h : lo ≤ k) :
    Memory.wfFrom lo (cellsFrom k vs) = true := by
  induction vs generalizing lo k with
  | nil => rfl
  | cons v vs ih =>
    by_cases hv : v = unlisted k
    · simpa [cellsFrom, hv] using ih lo (k + 1) (by omega)
    · simp [cellsFrom, hv, Memory.wfFrom, h, ih (k + 1) (k + 1) le_rfl]

theorem cellsFrom_keys (k : Nat) (vs : List Byte) :
    KeysSatisfy (fun a => k ≤ a ∧ a < k + vs.length) (cellsFrom k vs) := by
  induction vs generalizing k with
  | nil => simp [KeysSatisfy, cellsFrom]
  | cons v vs ih =>
    intro c hc
    have hrest : ∀ c ∈ cellsFrom (k + 1) vs, k ≤ c.1 ∧ c.1 < k + (v :: vs).length := fun c hc => by
      have := ih (k + 1) c hc
      simp only [List.length_cons]; omega
    by_cases hv : v = unlisted k
    · exact hrest c (by simpa [cellsFrom, hv] using hc)
    · simp only [cellsFrom, hv, if_false, List.mem_cons] at hc
      rcases hc with rfl | hc
      · simp
      · exact hrest c hc

/-- Two canonical parts, the keys of the first below a bound and those of the second from it up, are
canonical together. -/
theorem wfFrom_append {lo mid : Nat} {m n : Memory} (hm : Memory.wfFrom lo m = true)
    (hk : KeysSatisfy (· < mid) m) (hlo : lo ≤ mid) (hn : Memory.wfFrom mid n = true) :
    Memory.wfFrom lo (m ++ n) = true := by
  induction m generalizing lo with
  | nil => exact wfFrom_mono hlo hn
  | cons c m ih =>
    obtain ⟨a, v⟩ := c
    have ha : a < mid := hk (a, v) (by simp)
    simp only [Memory.wfFrom, Bool.and_eq_true, decide_eq_true_eq, List.cons_append] at hm ⊢
    exact ⟨hm.1, ih hm.2 (fun c hc => hk c (by simp [hc])) (by omega)⟩

theorem keys_erase {P : Nat → Prop} {m : Memory} (k : Nat) (h : KeysSatisfy P m) :
    KeysSatisfy P (Memory.erase m k) := by
  induction m with
  | nil => exact h
  | cons c m ih =>
    obtain ⟨a, v⟩ := c
    have hm := ih (fun c hc => h c (by simp [hc]))
    by_cases hk : a = k
    · simpa [Memory.erase, hk] using hm
    · intro c hc
      simp only [Memory.erase, hk, if_false, List.mem_cons] at hc
      rcases hc with rfl | hc
      · exact h _ (by simp)
      · exact hm c hc

theorem keys_insert {P : Nat → Prop} {m : Memory} {k : Nat} (v : Byte) (hk : P k)
    (h : KeysSatisfy P m) : KeysSatisfy P (Memory.insert m k v) := by
  induction m with
  | nil => intro c hc; simp only [Memory.insert, List.mem_singleton] at hc; subst hc; exact hk
  | cons c m ih =>
    obtain ⟨a, w⟩ := c
    have hm := ih (fun c hc => h c (by simp [hc]))
    intro c hc
    by_cases hlt : a < k
    · simp only [Memory.insert, hlt, if_true, List.mem_cons] at hc
      rcases hc with rfl | hc
      · exact h _ (by simp)
      · exact hm c hc
    · simp only [Memory.insert, hlt, if_false, List.mem_cons] at hc
      rcases hc with rfl | rfl | hc
      · exact hk
      · exact h _ (by simp)
      · exact h c (by simp [hc])

theorem keys_write {P : Nat → Prop} {m : Memory} {k : Nat} (v : Byte) (hk : P k)
    (h : KeysSatisfy P m) : KeysSatisfy P (Memory.write m k v) := by
  by_cases hv : v = unlisted k
  · simpa [Memory.write, hv] using keys_erase k h
  · simpa [Memory.write, hv] using keys_insert v hk (keys_erase k h)

theorem keys_ofCells {P : Nat → Prop} {cells : List Host.Cell} (h : ∀ c ∈ cells, P c.1) :
    KeysSatisfy P (Memory.ofCells cells) := by
  suffices g : ∀ (cs : List Host.Cell) (m : Memory), (∀ c ∈ cs, P c.1) → KeysSatisfy P m →
      KeysSatisfy P (cs.foldl (fun m c => Memory.write m c.1 c.2) m) from
    g cells [] h (by simp [KeysSatisfy])
  intro cs
  induction cs with
  | nil => exact fun m _ hm => hm
  | cons c cs ih =>
    exact fun m hc hm => ih _ (fun d hd => hc d (by simp [hd])) (keys_write _ (hc c (by simp)) hm)

theorem ramCells_keys (cells : List Host.Cell) :
    KeysSatisfy (fun k => 0x8000 ≤ k ∧ k < romBase) (Memory.ofCells (ramCells cells)) :=
  keys_ofCells (fun c hc => by simpa [ramCells] using (List.mem_filter.mp hc).2)

/-- The byte store at power-on is canonical, whatever the image, the overlay and the initial RAM. -/
theorem wf_powerOnMemory (cart : Cart) (image overlay : List Byte) (ram : List Host.Cell)
    (h : overlay.length ≤ 256) : Memory.wf (powerOnMemory cart image overlay ram) = true := by
  have hram := ramCells_keys ram
  have hover := cellsFrom_keys 0 overlay
  refine wfFrom_append (mid := romBase) ?_ ?_ (Nat.zero_le _) (wfFrom_cellsFrom _ _ _ le_rfl)
  · refine wfFrom_append (mid := 0x8000) (wfFrom_cellsFrom _ _ _ le_rfl) (fun c hc => ?_)
      (Nat.zero_le _) ?_
    · have := hover c hc; show c.1 < 0x8000; omega
    · have hwf := wf_ofCells (ramCells ram)
      revert hwf hram
      generalize Memory.ofCells (ramCells ram) = m
      intro hwf hram
      cases m with
      | nil => rfl
      | cons c m =>
        obtain ⟨a, v⟩ := c
        have ha : 0x8000 ≤ a := (hwf (a, v) (by simp)).1
        simp only [Memory.wf, Memory.wfFrom, Bool.and_eq_true, decide_eq_true_eq] at hram ⊢
        exact ⟨⟨ha, hram.1.2⟩, hram.2⟩
  · intro c hc
    rcases List.mem_append.mp hc with hc | hc
    · have := hover c hc; show c.1 < romBase; simp only [romBase]; omega
    · exact (hram c hc).2

/-- The byte store after reset is canonical. -/
theorem wf_reset : Memory.wf State.reset.mem = true := rfl

end Sys2Proof.Machine
end

