-- ==== Sys2Proof/Laws/Bus.lean ====
section
/-! SUPPORT. What the bus operations do, said once: the one inversion of a bus write, what it leaves alone,
and what a read sees after it. -/

namespace Sys2Proof.Machine

/-! ## Addresses and owners -/

theorem ownerOf_rom {a : Word} (h : a.toNat < 0x8000) : ownerOf a = .rom := by simp [ownerOf, h]

theorem ownerOf_vram {a : Word} (h : 0x8000 ≤ a.toNat) (h' : a.toNat < 0xA000) : ownerOf a = .vram := by
  simp [ownerOf, show ¬a.toNat < 0x8000 by omega, h']

theorem ownerOf_cartRam {a : Word} (h : 0xA000 ≤ a.toNat) (h' : a.toNat < 0xC000) :
    ownerOf a = .cartRam := by
  simp [ownerOf, show ¬a.toNat < 0x8000 by omega, show ¬a.toNat < 0xA000 by omega, h']

theorem ownerOf_wram {a : Word} (h : 0xC000 ≤ a.toNat) (h' : a.toNat < 0xE000) : ownerOf a = .wram := by
  simp [ownerOf, show ¬a.toNat < 0x8000 by omega, show ¬a.toNat < 0xA000 by omega,
    show ¬a.toNat < 0xC000 by omega, h']

theorem ownerOf_echo {a : Word} (h : 0xE000 ≤ a.toNat) (h' : a.toNat < 0xFE00) : ownerOf a = .echo := by
  simp [ownerOf, show ¬a.toNat < 0x8000 by omega, show ¬a.toNat < 0xA000 by omega,
    show ¬a.toNat < 0xC000 by omega, show ¬a.toNat < 0xE000 by omega, h']

theorem ownerOf_oam {a : Word} (h : 0xFE00 ≤ a.toNat) (h' : a.toNat < 0xFEA0) : ownerOf a = .oam := by
  simp [ownerOf, show ¬a.toNat < 0x8000 by omega, show ¬a.toNat < 0xA000 by omega,
    show ¬a.toNat < 0xC000 by omega, show ¬a.toNat < 0xE000 by omega, show ¬a.toNat < 0xFE00 by omega, h']

theorem ownerOf_unusable {a : Word} (h : 0xFEA0 ≤ a.toNat) (h' : a.toNat < 0xFF00) :
    ownerOf a = .unusable := by
  simp [ownerOf, show ¬a.toNat < 0x8000 by omega, show ¬a.toNat < 0xA000 by omega,
    show ¬a.toNat < 0xC000 by omega, show ¬a.toNat < 0xE000 by omega, show ¬a.toNat < 0xFE00 by omega,
    show ¬a.toNat < 0xFEA0 by omega, h']

theorem ownerOf_io {a : Word} (h : 0xFF00 ≤ a.toNat) (h' : a.toNat < 0xFF80) : ownerOf a = .io := by
  simp [ownerOf, show ¬a.toNat < 0x8000 by omega, show ¬a.toNat < 0xA000 by omega,
    show ¬a.toNat < 0xC000 by omega, show ¬a.toNat < 0xE000 by omega, show ¬a.toNat < 0xFE00 by omega,
    show ¬a.toNat < 0xFEA0 by omega, show ¬a.toNat < 0xFF00 by omega, h']

theorem ownerOf_hram {a : Word} (h : 0xFF80 ≤ a.toNat) (h' : a.toNat < 0xFFFF) : ownerOf a = .hram := by
  simp [ownerOf, show ¬a.toNat < 0x8000 by omega, show ¬a.toNat < 0xA000 by omega,
    show ¬a.toNat < 0xC000 by omega, show ¬a.toNat < 0xE000 by omega, show ¬a.toNat < 0xFE00 by omega,
    show ¬a.toNat < 0xFEA0 by omega, show ¬a.toNat < 0xFF00 by omega, show ¬a.toNat < 0xFF80 by omega, h']

theorem ownerOf_ie {a : Word} (h : 0xFFFF ≤ a.toNat) : ownerOf a = .ie := by
  simp [ownerOf, show ¬a.toNat < 0x8000 by omega, show ¬a.toNat < 0xA000 by omega,
    show ¬a.toNat < 0xC000 by omega, show ¬a.toNat < 0xE000 by omega, show ¬a.toNat < 0xFE00 by omega,
    show ¬a.toNat < 0xFEA0 by omega, show ¬a.toNat < 0xFF00 by omega, show ¬a.toNat < 0xFF80 by omega,
    show ¬a.toNat < 0xFFFF by omega]

/-- The range of addresses each owner has (R80). -/
theorem ownerOf_range (a : Word) :
    match ownerOf a with
    | .rom => a.toNat < 0x8000
    | .vram => 0x8000 ≤ a.toNat ∧ a.toNat < 0xA000
    | .cartRam => 0xA000 ≤ a.toNat ∧ a.toNat < 0xC000
    | .wram => 0xC000 ≤ a.toNat ∧ a.toNat < 0xE000
    | .echo => 0xE000 ≤ a.toNat ∧ a.toNat < 0xFE00
    | .oam => 0xFE00 ≤ a.toNat ∧ a.toNat < 0xFEA0
    | .unusable => 0xFEA0 ≤ a.toNat ∧ a.toNat < 0xFF00
    | .io => 0xFF00 ≤ a.toNat ∧ a.toNat < 0xFF80
    | .hram => 0xFF80 ≤ a.toNat ∧ a.toNat < 0xFFFF
    | .ie => a.toNat = 0xFFFF := by
  have hb := a.isLt
  by_cases h1 : a.toNat < 0x8000
  · rw [ownerOf_rom h1]; exact h1
  by_cases h2 : a.toNat < 0xA000
  · rw [ownerOf_vram (by omega) h2]; omega
  by_cases h3 : a.toNat < 0xC000
  · rw [ownerOf_cartRam (by omega) h3]; omega
  by_cases h4 : a.toNat < 0xE000
  · rw [ownerOf_wram (by omega) h4]; omega
  by_cases h5 : a.toNat < 0xFE00
  · rw [ownerOf_echo (by omega) h5]; omega
  by_cases h6 : a.toNat < 0xFEA0
  · rw [ownerOf_oam (by omega) h6]; omega
  by_cases h7 : a.toNat < 0xFF00
  · rw [ownerOf_unusable (by omega) h7]; omega
  by_cases h8 : a.toNat < 0xFF80
  · rw [ownerOf_io (by omega) h8]; omega
  by_cases h9 : a.toNat < 0xFFFF
  · rw [ownerOf_hram (by omega) h9]; omega
  · rw [ownerOf_ie (by omega)]; simp only []; omega

/-! ## I/O registers -/

/-- Where each register of the I/O page is (R92). -/
theorem ioRegAt_wave_iff (n : Nat) : ioRegAt n = .wave ↔ 0x30 ≤ n ∧ n < 0x40 := by
  have hl : ∀ i, lowRegAt i ≠ .wave := fun i => by unfold lowRegAt; split <;> simp
  have hp : ∀ i, ppuRegAt i ≠ .wave := fun i => by unfold ppuRegAt; split <;> simp
  unfold ioRegAt
  split
  · exact ⟨fun h => absurd h (hl n), fun h => by omega⟩
  split
  · refine ⟨fun h => ?_, fun h => by omega⟩
    split at h <;> simp at h
  split
  · exact ⟨fun h => by simp at h, fun h => by omega⟩
  split
  · exact ⟨fun h => by simp at h, fun h => by omega⟩
  split
  · exact ⟨fun _ => by omega, fun _ => rfl⟩
  · exact ⟨fun h => absurd h (hp _), fun h => by omega⟩

theorem ioRegister_wave {a : Word} (h : 0xFF30 ≤ a.toNat ∧ a.toNat ≤ 0xFF3F) : ioRegister a = .wave :=
  (ioRegAt_wave_iff _).2 (by omega)

theorem isWaveRam_of_io {a : Word} (ho : ownerOf a = .io) (h : ioRegister a = .wave) :
    isWaveRam a = true := by
  have hw := (ioRegAt_wave_iff _).1 h
  have hr := ownerOf_range a
  simp only [ho] at hr
  simp only [isWaveRam, Bool.and_eq_true, decide_eq_true_eq]
  omega

/-! ## Keys -/

theorem ramIndex_lt (c : Cart) (a : Word) : c.ramIndex a < 0x20000 := by
  have hb : c.ramBank.toNat % c.ramBanks ≤ 15 :=
    le_trans (Nat.mod_le _ _) (by have := c.ramBank.isLt; omega)
  unfold Cart.ramIndex
  exact lt_of_le_of_lt (Nat.mod_le _ _) (by omega)

/-- A stored byte's key is never one of ROM or of the overlay. -/
theorem storeKey_range {a : Word} {s : State} {k : Nat} (h : storeKey a s = some k) :
    0x8000 ≤ k ∧ k < romBase := by
  have hr := ownerOf_range a
  unfold storeKey at h
  simp only [romBase]
  cases ho : ownerOf a <;> simp only [ho] at h hr
  case rom => exact absurd h (by simp)
  case unusable => exact absurd h (by simp)
  case ie => exact absurd h (by simp)
  case cartRam =>
    split at h
    · have hi := ramIndex_lt s.cart a
      simp only [Cart.ramKey, cartRamBase, Option.some.injEq] at h
      omega
    · exact absurd h (by simp)
  case io =>
    split at h
    · simp only [Option.some.injEq] at h; omega
    · exact absurd h (by simp)
  case echo =>
    have hk : 0xC000 + a.toNat % 0x2000 = k := Option.some.inj h
    omega
  all_goals
    have hk : a.toNat = k := Option.some.inj h
    omega

/-- Keys do not depend on the CPU. -/
@[simp] theorem storeKey_withCpu (a : Word) (s : State) (c : Cpu) (n : Nat) :
    storeKey a { s with cpu := c, cycles := n } = storeKey a s := by
  unfold storeKey
  cases ownerOf a <;> rfl

/-! ## Writes -/

theorem ioWrite_withCpu (a : Word) (v : Byte) (s : State) (c : Cpu) (n : Nat) :
    ioWrite a v { s with cpu := c, cycles := n } = { ioWrite a v s with cpu := c, cycles := n } := by
  unfold ioWrite
  cases ioRegister a <;> rfl

/-- A bus write does not depend on the CPU or on the reported cost, and changes neither. -/
theorem busWrite_withCpu (a : Word) (v : Byte) (s : State) (c : Cpu) (n : Nat) :
    busWrite a v { s with cpu := c, cycles := n } = { busWrite a v s with cpu := c, cycles := n } := by
  unfold busWrite
  cases ownerOf a
  case io => exact ioWrite_withCpu a v s c n
  case cartRam => dsimp only; cases s.cart.ramAccessible <;> rfl
  all_goals rfl

/-- Everything a bus write can do: nothing, store one byte, control the cartridge, write an I/O register, or
write IE. -/
theorem busWrite_cases (a : Word) (v : Byte) (s : State) :
    (busWrite a v s = s ∧ storeKey a s = none) ∨
    (∃ k, storeKey a s = some k ∧ busWrite a v s = s.writeKey k v) ∨
    (a.toNat < 0x8000 ∧ storeKey a s = none ∧
      busWrite a v s = { s with cart := s.cart.control s.params.mbcCZeroRemap a v }) ∨
    (ownerOf a = .io ∧ isWaveRam a = false ∧ storeKey a s = none ∧ busWrite a v s = ioWrite a v s) ∨
    (ownerOf a = .ie ∧ storeKey a s = none ∧ busWrite a v s = { s with irq := { s.irq with en := v } }) := by
  have hr := ownerOf_range a
  cases ho : ownerOf a <;> simp only [ho] at hr
  case rom => exact .inr (.inr (.inl ⟨hr, by simp [storeKey, ho], by simp [busWrite, ho]⟩))
  case cartRam =>
    by_cases h : s.cart.ramAccessible = true
    · exact .inr (.inl ⟨s.cart.ramKey a, by simp [storeKey, ho, h], by simp [busWrite, ho, h]⟩)
    · exact .inl ⟨by simp [busWrite, ho, h], by simp [storeKey, ho, h]⟩
  case unusable => exact .inl ⟨by simp [busWrite, ho], by simp [storeKey, ho]⟩
  case ie => exact .inr (.inr (.inr (.inr ⟨rfl, by simp [storeKey, ho], by simp [busWrite, ho]⟩)))
  case io =>
    by_cases h : isWaveRam a = true
    · refine .inr (.inl ⟨a.toNat, by simp [storeKey, ho, h], ?_⟩)
      have hw : 0xFF30 ≤ a.toNat ∧ a.toNat ≤ 0xFF3F := by simpa [isWaveRam] using h
      simp only [busWrite, ho, ioWrite, ioRegister_wave hw]
    · exact .inr (.inr (.inr (.inl ⟨rfl, by simpa using h, by simp [storeKey, ho, h],
        by simp [busWrite, ho]⟩)))
  case echo => exact .inr (.inl ⟨echoKey a, by simp only [storeKey, ho], by simp only [busWrite, ho]⟩)
  all_goals exact .inr (.inl ⟨a.toNat, by simp only [storeKey, ho], by simp only [busWrite, ho]⟩)

/-- What a write to an I/O register leaves alone. -/
theorem ioWrite_frame (a : Word) (v : Byte) (s : State) :
    (ioWrite a v s).cpu = s.cpu ∧ (ioWrite a v s).cart = s.cart ∧ (ioWrite a v s).irq.en = s.irq.en ∧
      (ioWrite a v s).buttons = s.buttons ∧ (ioWrite a v s).overlayActive = s.overlayActive ∧
      (ioWrite a v s).fault = s.fault ∧ (ioWrite a v s).params = s.params ∧
      (ioWrite a v s).cycles = s.cycles ∧ (ioWrite a v s).timer.divAcc = s.timer.divAcc ∧
      (ioWrite a v s).timer.timaAcc = s.timer.timaAcc ∧ (ioWrite a v s).ppu.mode = s.ppu.mode ∧
      (ioWrite a v s).ppu.acc = s.ppu.acc ∧ (ioWrite a v s).ppu.ly = s.ppu.ly ∧
      (ioWrite a v s).ppu.lycEqual = s.ppu.lycEqual ∧
      (ioWrite a v s).ppu.spritesNormal = s.ppu.spritesNormal ∧
      (ioWrite a v s).ppu.spritesBehind = s.ppu.spritesBehind ∧
      (ioWrite a v s).ppu.framebuffer = s.ppu.framebuffer ∧
      (ioWrite a v s).ppu.displayWasOff = s.ppu.displayWasOff := by
  unfold ioWrite
  cases ioRegister a <;> exact ⟨rfl, rfl, rfl, rfl, rfl, rfl, rfl, rfl, rfl, rfl, rfl, rfl, rfl, rfl, rfl, rfl, rfl, rfl⟩

/-- A write to an I/O register other than wave RAM stores no byte. -/
theorem ioWrite_mem {a : Word} (v : Byte) (s : State) (ho : ownerOf a = .io)
    (h : isWaveRam a = false) : (ioWrite a v s).mem = s.mem := by
  have hw : ioRegister a ≠ .wave := fun hc => by simp [isWaveRam_of_io ho hc] at h
  unfold ioWrite
  cases hr : ioRegister a <;> first | rfl | exact absurd hr hw

/-- What a bus write leaves alone, whatever its address. -/
theorem busWrite_frame (a : Word) (v : Byte) (s : State) :
    (busWrite a v s).cpu = s.cpu ∧ (busWrite a v s).buttons = s.buttons ∧
      (busWrite a v s).overlayActive = s.overlayActive ∧ (busWrite a v s).fault = s.fault ∧
      (busWrite a v s).params = s.params ∧ (busWrite a v s).cycles = s.cycles ∧
      (busWrite a v s).timer.divAcc = s.timer.divAcc ∧ (busWrite a v s).timer.timaAcc = s.timer.timaAcc ∧
      (busWrite a v s).ppu.mode = s.ppu.mode ∧ (busWrite a v s).ppu.acc = s.ppu.acc ∧
      (busWrite a v s).ppu.ly = s.ppu.ly ∧ (busWrite a v s).ppu.lycEqual = s.ppu.lycEqual ∧
      (busWrite a v s).ppu.spritesNormal = s.ppu.spritesNormal ∧
      (busWrite a v s).ppu.spritesBehind = s.ppu.spritesBehind ∧
      (busWrite a v s).ppu.framebuffer = s.ppu.framebuffer ∧
      (busWrite a v s).ppu.displayWasOff = s.ppu.displayWasOff := by
  rcases busWrite_cases a v s with ⟨h, _⟩ | ⟨k, _, h⟩ | ⟨_, _, h⟩ | ⟨_, _, _, h⟩ | ⟨_, _, h⟩ <;> rw [h]
  case inr.inr.inr.inl =>
    obtain ⟨h1, _, _, h2, h3, h4, h5, h6, h7, h8, h9, h10, h11, h12, h13, h14, h15, h16⟩ :=
      ioWrite_frame a v s
    exact ⟨h1, h2, h3, h4, h5, h6, h7, h8, h9, h10, h11, h12, h13, h14, h15, h16⟩
  all_goals exact ⟨rfl, rfl, rfl, rfl, rfl, rfl, rfl, rfl, rfl, rfl, rfl, rfl, rfl, rfl, rfl, rfl⟩

@[simp] theorem busWrite_cpu (a : Word) (v : Byte) (s : State) : (busWrite a v s).cpu = s.cpu :=
  (busWrite_frame a v s).1

@[simp] theorem busWrite_buttons (a : Word) (v : Byte) (s : State) :
    (busWrite a v s).buttons = s.buttons := (busWrite_frame a v s).2.1

@[simp] theorem busWrite_overlayActive (a : Word) (v : Byte) (s : State) :
    (busWrite a v s).overlayActive = s.overlayActive := (busWrite_frame a v s).2.2.1

@[simp] theorem busWrite_fault (a : Word) (v : Byte) (s : State) : (busWrite a v s).fault = s.fault :=
  (busWrite_frame a v s).2.2.2.1

@[simp] theorem busWrite_params (a : Word) (v : Byte) (s : State) : (busWrite a v s).params = s.params :=
  (busWrite_frame a v s).2.2.2.2.1

@[simp] theorem busWrite_cycles (a : Word) (v : Byte) (s : State) : (busWrite a v s).cycles = s.cycles :=
  (busWrite_frame a v s).2.2.2.2.2.1

/-- A control write changes neither the variant nor the sizes (R54). -/
theorem control_frame (z : Bool) (a : Word) (v : Byte) (c : Cart) :
    (c.control z a v).variant = c.variant ∧ (c.control z a v).romSize = c.romSize ∧
      (c.control z a v).ramSize = c.ramSize := by
  cases hv : c.variant <;> simp only [Cart.control, hv]
  · exact ⟨trivial, trivial, trivial⟩
  · unfold Cart.controlA Cart.writeRamEnable; split_ifs <;> exact ⟨hv, rfl, rfl⟩
  · unfold Cart.controlB Cart.writeRamEnable; split_ifs <;> exact ⟨hv, rfl, rfl⟩
  · unfold Cart.controlC Cart.writeRamEnable; split_ifs <;> exact ⟨hv, rfl, rfl⟩

/-- The cartridge after a bus write: unchanged from 0x8000 up, controlled below (R115). -/
theorem busWrite_cart (a : Word) (v : Byte) (s : State) :
    (busWrite a v s).cart =
      if a.toNat < 0x8000 then s.cart.control s.params.mbcCZeroRemap a v else s.cart := by
  by_cases ha : a.toNat < 0x8000
  · simp [busWrite, ownerOf_rom ha, ha]
  · simp only [ha, if_false]
    rcases busWrite_cases a v s with ⟨h, _⟩ | ⟨k, _, h⟩ | ⟨h8, _⟩ | ⟨_, _, _, h⟩ | ⟨_, _, h⟩
    · rw [h]
    · rw [h]; rfl
    · exact absurd h8 ha
    · rw [h]; exact (ioWrite_frame a v s).2.1
    · rw [h]

/-- The byte store after a bus write. -/
theorem busWrite_mem (a : Word) (v : Byte) (s : State) :
    (busWrite a v s).mem =
      match storeKey a s with
      | some k => Memory.write s.mem k v
      | none => s.mem := by
  rcases busWrite_cases a v s with ⟨h, hk⟩ | ⟨k, hk, h⟩ | ⟨_, hk, h⟩ | ⟨ho, hw, hk, h⟩ | ⟨_, hk, h⟩ <;>
    rw [h, hk]
  · rfl
  · exact ioWrite_mem v s ho hw

/-- Every stored byte after a bus write: the written one, if the address is storage, and the old others. -/
theorem readKey_busWrite (a : Word) (v : Byte) (s : State) (j : Nat) :
    (busWrite a v s).readKey j = if storeKey a s = some j then v else s.readKey j := by
  unfold State.readKey
  rw [busWrite_mem]
  cases hk : storeKey a s with
  | none => simp
  | some k =>
    simp only [read_write, Option.some.injEq]
    by_cases h : j = k
    · simp [h]
    · simp [h, Ne.symm h]

/-- A bus write keeps the canonical form. -/
theorem busWrite_wf (a : Word) (v : Byte) {s : State} (h : Memory.wf s.mem = true) :
    Memory.wf (busWrite a v s).mem = true := by
  rw [busWrite_mem]
  cases storeKey a s with
  | none => exact h
  | some k => exact wf_write k v h

/-! ## Reads -/

/-- A bus read does not depend on the CPU or on the reported cost. -/
@[simp] theorem busRead_withCpu (a : Word) (s : State) (c : Cpu) (n : Nat) :
    busRead a { s with cpu := c, cycles := n } = busRead a s := by
  unfold busRead State.overlayHit
  cases ownerOf a <;> rfl

/-- Where an address shows a stored byte, a read is a read of its key. -/
theorem busRead_loadKey {a : Word} {s : State} {k : Nat} (h : loadKey a s = some k) :
    busRead a s = s.readKey k := by
  unfold loadKey at h
  by_cases ho : s.overlayHit a = true
  · simp only [ho, if_true, Option.some.injEq] at h
    simp only [busRead, ho, if_true, h]
  · simp only [ho, if_false, Bool.false_eq_true] at h
    by_cases hr : ownerOf a = .rom
    · simp only [hr, if_true, Option.some.injEq] at h
      simp only [busRead, ho, hr, if_false, Bool.false_eq_true, h]
    · simp only [hr, if_false] at h
      unfold storeKey at h
      cases hc : ownerOf a <;> simp only [hc] at h
      case rom => exact absurd hc hr
      case unusable => simp at h
      case ie => simp at h
      case cartRam =>
        by_cases hacc : s.cart.ramAccessible = true
        · simp only [hacc, if_true, Option.some.injEq] at h
          simp only [busRead, ho, hc, hacc, if_true, if_false, Bool.false_eq_true, h]
        · simp [hacc] at h
      case io =>
        by_cases hw : isWaveRam a = true
        · have hw' : 0xFF30 ≤ a.toNat ∧ a.toNat ≤ 0xFF3F := by simpa [isWaveRam] using hw
          simp only [hw, if_true, Option.some.injEq] at h
          subst h
          simp only [busRead, ho, hc, ioRead, ioRegister_wave hw', if_false, Bool.false_eq_true]
        · simp [hw] at h
      all_goals
        simp only [Option.some.injEq] at h
        simp only [busRead, ho, hc, if_false, Bool.false_eq_true, h]

/-- A storage address outside the overlay reads the byte at its own key. -/
theorem loadKey_of_storeKey {a : Word} {s : State} {k : Nat} (h : storeKey a s = some k) :
    loadKey a s = some k := by
  have hr : ownerOf a ≠ .rom := fun hr => by simp [storeKey, hr] at h
  have ha : ¬a.toNat ≤ 0x00FF := fun hc => hr (ownerOf_rom (by omega))
  simp [loadKey, State.overlayHit, ha, hr, h]

/-- Storing a byte changes what a read sees only at addresses that show that byte. -/
theorem busRead_writeKey (b : Word) (s : State) (k : Nat) (v : Byte) :
    busRead b (s.writeKey k v) = if loadKey b s = some k then v else busRead b s := by
  have hl : loadKey b (s.writeKey k v) = loadKey b s := rfl
  cases h : loadKey b s with
  | some j =>
    rw [busRead_loadKey (hl.trans h), busRead_loadKey h, readKey_writeKey]
    simp
  | none =>
    simp only [reduceCtorEq, if_false]
    have ho : s.overlayHit b = false := by
      by_contra hc; simp [loadKey, Bool.eq_true_of_not_eq_false hc] at h
    have hr : ownerOf b ≠ .rom := fun hr => by simp [loadKey, ho, hr] at h
    have hk : storeKey b s = none := by simpa [loadKey, ho, hr] using h
    have ho' : (s.writeKey k v).overlayHit b = false := ho
    unfold storeKey at hk
    unfold busRead
    simp only [ho, ho']
    cases hc : ownerOf b <;> simp only [hc] at hk hr ⊢
    case cartRam =>
      have hacc : s.cart.ramAccessible = false := by
        by_contra hx; simp [Bool.eq_true_of_not_eq_false hx] at hk
      have hacc' : (s.writeKey k v).cart.ramAccessible = false := hacc
      simp [hacc, hacc']
    case io =>
      have hw : isWaveRam b = false := by
        by_contra hx; simp [Bool.eq_true_of_not_eq_false hx] at hk
      have hw' : ioRegister b ≠ .wave := fun hx => by simp [isWaveRam_of_io hc hx] at hw
      unfold ioRead
      cases hx : ioRegister b <;> first | rfl | exact absurd hx hw'
    all_goals first | rfl | simp at hk | simp at hr

end Sys2Proof.Machine
end

