-- ==== Sys2Proof/Laws/Cart.lean ====
section
/-! SUPPORT. The bank controllers keep their registers in the values R109-R113 form. -/

namespace Sys2Proof.Machine

/-- A masked 9-bit value is below a power of two. -/
theorem toNat_and_lt {w : Nat} (x m : BitVec w) {n : Nat} (h : m.toNat < 2 ^ n) : (x &&& m).toNat < 2 ^ n := by
  rw [BitVec.toNat_and]
  exact Nat.and_lt_two_pow _ h

/-- Two values below a power of two stay below it together. -/
theorem toNat_or_lt {w : Nat} {x y : BitVec w} {n : Nat} (hx : x.toNat < 2 ^ n) (hy : y.toNat < 2 ^ n) :
    (x ||| y).toNat < 2 ^ n := by
  rw [BitVec.toNat_or]
  exact Nat.or_lt_two_pow hx hy

/-- The low part of a bank register decides whether it is zero under the low mask. -/
theorem or_and_ne_zero {w : Nat} {x y m : BitVec w} (h : y &&& m ≠ 0) : (x ||| y) &&& m ≠ 0 := by
  intro hz
  apply h
  ext i hi
  have := congrArg (fun b => b.getLsbD i) hz
  simp only [BitVec.getLsbD_and, BitVec.getLsbD_or] at this
  simp only [BitVec.getElem_and, BitVec.ofNat_eq_ofNat, BitVec.getElem_zero]
  rw [← BitVec.getLsbD_eq_getElem, ← BitVec.getLsbD_eq_getElem]
  revert this
  cases x.getLsbD i <;> cases y.getLsbD i <;> cases m.getLsbD i <;> simp

/-- The five bits written to the first bank register of Variant A, or the 1 that replaces 0 (R109). -/
theorem bankLowA (v : Byte) :
    let lo : Byte := if v &&& 0x1F = 0 then 1 else v &&& 0x1F
    (lo.setWidth 9).toNat < 32 ∧ lo.setWidth 9 &&& (0x1F : BitVec 9) ≠ 0 := by
  revert v; decide

/-- The seven bits written to the bank register of Variant B, or the 1 that replaces 0 (R112). -/
theorem bankLowB (v : Byte) :
    let lo : Byte := if v &&& 0x7F = 0 then 1 else v &&& 0x7F
    0 < (lo.setWidth 9).toNat ∧ (lo.setWidth 9).toNat < 128 := by
  revert v; decide

/-- The byte written to the first bank register of Variant C, or the 1 that replaces 0 (R113). -/
theorem bankLowC (v : Byte) : (if v = 0 then (1 : Byte) else v).setWidth 9 &&& (0xFF : BitVec 9) ≠ 0 := by
  revert v; decide

theorem bankHighA (v : Byte) : ((v &&& 0x03).setWidth 9 <<< 5).toNat < 128 ∧
    (v &&& 0x03).setWidth 9 <<< 5 &&& (0x1F : BitVec 9) = 0 := by
  revert v; decide

theorem bankHighC (v : Byte) : (v &&& 0x01).setWidth 9 <<< 8 &&& (0xFF : BitVec 9) = 0 := by
  revert v; decide

theorem ramBankA (v : Byte) : ((v &&& 0x03).setWidth 4).toNat < 4 := by
  revert v; decide

theorem ramBankB (v : Byte) (h : v.toNat ≤ 0x07) : (v.setWidth 4).toNat < 8 := by
  rw [BitVec.toNat_setWidth]; omega

/-- A control write keeps the bank registers of its variant legal (R109, R111-R113). -/
theorem control_legal {z : Bool} (a : Word) (v : Byte) {c : Cart} :
    (c.variant = .A → (c.romBank.toNat < 128 ∧ c.romBank &&& 0x1F ≠ 0 ∧ c.ramBank.toNat < 4) →
      (c.control z a v).romBank.toNat < 128 ∧ (c.control z a v).romBank &&& 0x1F ≠ 0 ∧
        (c.control z a v).ramBank.toNat < 4) ∧
    (c.variant = .B → (0 < c.romBank.toNat ∧ c.romBank.toNat < 128 ∧ c.ramBank.toNat < 8) →
      0 < (c.control z a v).romBank.toNat ∧ (c.control z a v).romBank.toNat < 128 ∧
        (c.control z a v).ramBank.toNat < 8) ∧
    (c.variant = .C → (z = true → c.romBank &&& 0xFF ≠ 0) →
      z = true → (c.control z a v).romBank &&& 0xFF ≠ 0) := by
  refine ⟨fun hv h => ?_, fun hv h => ?_, fun hv h hz => ?_⟩ <;> simp only [Cart.control, hv]
  · obtain ⟨h1, h2, h3⟩ := h
    unfold Cart.controlA
    split_ifs
    · exact ⟨h1, h2, h3⟩
    · obtain ⟨k1, k2⟩ := bankLowA v
      refine ⟨?_, or_and_ne_zero k2, h3⟩
      exact toNat_or_lt (n := 7) (toNat_and_lt _ _ (by decide)) (lt_trans k1 (by decide))
    · obtain ⟨k1, k2⟩ := bankHighA v
      refine ⟨?_, ?_, h3⟩
      · exact toNat_or_lt (n := 7) (toNat_and_lt _ _ (by decide)) k1
      · show ((c.romBank &&& 0x1F) ||| _) &&& 0x1F ≠ 0
        rw [BitVec.or_comm]
        refine or_and_ne_zero ?_
        rw [BitVec.and_assoc]
        exact h2
    · exact ⟨h1, h2, ramBankA v⟩
    · exact ⟨h1, h2, h3⟩
  · obtain ⟨h1, h2, h3⟩ := h
    unfold Cart.controlB
    split_ifs with _ _ _ hv7
    · exact ⟨h1, h2, h3⟩
    · obtain ⟨k1, k2⟩ := bankLowB v
      exact ⟨k1, k2, h3⟩
    · exact ⟨h1, h2, ramBankB v hv7⟩
    · exact ⟨h1, h2, h3⟩
    · exact ⟨h1, h2, h3⟩
  · unfold Cart.controlC
    subst hz
    have h0 := h rfl
    by_cases h1 : a.toNat < 0x2000
    · rw [if_pos h1]; exact h0
    rw [if_neg h1]
    by_cases h2 : a.toNat < 0x3000
    · rw [if_pos h2]
      refine or_and_ne_zero ?_
      simpa using bankLowC v
    rw [if_neg h2]
    by_cases h3 : a.toNat < 0x4000
    · rw [if_pos h3]
      show ((c.romBank &&& 0x0FF) ||| _) &&& 0xFF ≠ 0
      rw [BitVec.or_comm]
      refine or_and_ne_zero ?_
      rw [BitVec.and_assoc]
      exact h0
    rw [if_neg h3]
    split_ifs <;> exact h0

/-- A bus write keeps the bank registers legal. -/
theorem bankLegal_busWrite (a : Word) (v : Byte) {s : State} (h : bankLegal s) :
    bankLegal (busWrite a v s) := by
  unfold bankLegal at h ⊢
  rw [busWrite_cart, busWrite_params]
  by_cases ha : a.toNat < 0x8000
  · rw [if_pos ha]
    obtain ⟨hA, hB, hC⟩ := control_legal (z := s.params.mbcCZeroRemap) a v (c := s.cart)
    rw [(control_frame s.params.mbcCZeroRemap a v s.cart).1]
    cases hv : s.cart.variant <;> rw [hv] at h <;> dsimp only at h ⊢
    · exact hA hv h
    · exact hB hv h
    · exact hC hv h
  · rw [if_neg ha]
    exact h

end Sys2Proof.Machine
end

