-- ==== Sys2Proof/Laws/Code.lean ====
section
/-! SUPPORT. What the decoder answers, said once: for a list that holds a whole instruction, and for one
that does not. -/

namespace Sys2Proof

/-- A list that starts with a whole instruction gives it, with the bytes after it. -/
theorem decode_whole (o : Byte) (tl rest : List Byte) (h : opLength o = tl.length + 1)
    (h' : o ≠ 0xCB ∨ tl ≠ []) :
    decode (o :: (tl ++ rest)) =
      .ok (instrOf o ((tl ++ rest).getD 0 0) ((tl ++ rest).getD 1 0), rest) := by
  have hp : ¬(o = 0xCB ∧ tl ++ rest = []) := fun ⟨ho, ht⟩ =>
    h'.elim (fun k => k ho) (fun k => k (List.append_eq_nil_iff.1 ht).1)
  have hl : ¬(tl ++ rest).length + 1 < opLength o := by
    rw [h, List.length_append]; omega
  show (if o = 0xCB ∧ tl ++ rest = [] then _ else if _ then _ else _) = _
  rw [if_neg hp, if_neg hl, h, Nat.add_sub_cancel, List.drop_left]

/-- Three bytes are always a whole instruction. -/
theorem opLength_range (o : Byte) : 1 ≤ opLength o ∧ opLength o ≤ 3 := by
  unfold opLength; split_ifs <;> omega

/-- A list whose decoding is an instruction is the bare prefix, or holds as many bytes as its first byte
says. -/
theorem decode_ok {bytes rest : List Byte} {i : Instr} (h : decode bytes = .ok (i, rest)) :
    (bytes = [0xCB] ∧ i = .prefix_CB ∧ rest = []) ∨
    ∃ o tl, bytes = o :: tl ∧ opLength o ≤ tl.length + 1 ∧
      i = instrOf o (tl.getD 0 0) (tl.getD 1 0) ∧ rest = tl.drop (opLength o - 1) := by
  unfold decode at h
  split at h
  · cases h
  · rename_i o tl
    split_ifs at h with h1 h2
    · cases h
      exact .inl ⟨by rw [h1.1, h1.2], rfl, rfl⟩
    · cases h
      exact .inr ⟨o, tl, rfl, Nat.not_lt.1 h2, rfl, rfl⟩

end Sys2Proof
end

