-- ==== Sys2Proof/Laws/Form.lean ====
section
/-! SUPPORT. The 512 instructions as 51 forms: `formOf` names the shared operation and the operands of an
instruction, and `exec_form` says that executing the instruction runs its form. A proof about every
instruction splits on the form, not on the constructors. -/

namespace Sys2Proof.Machine

/-- A shared operation with its operands. -/
inductive Form where
  | loadR8 (x : R8) (y : R8)
  | loadN8 (x : R8) (y : Byte)
  | loadMem (x : R16Mem)
  | storeMem (x : R16Mem)
  | loadN16 (x : R16) (y : Word)
  | storeSP (x : Word)
  | loadSPHL
  | push (x : R16Stk)
  | pop (x : R16Stk)
  | loadHLSP (x : Byte)
  | aluR8 (x : AluOp) (y : R8)
  | aluN8 (x : AluOp) (y : Byte)
  | incR8 (x : R8)
  | decR8 (x : R8)
  | decimalAdjust
  | complementA
  | setCarry
  | complementCarry
  | addHL (x : R16)
  | incR16 (x : R16)
  | decR16 (x : R16)
  | addSP (x : Byte)
  | rotateA (x : RotOp)
  | rotateR8 (x : RotOp) (y : R8)
  | testBitR8 (x : U3) (y : R8)
  | resetBitR8 (x : U3) (y : R8)
  | setBitR8 (x : U3) (y : R8)
  | jump (x : Word)
  | jumpIf (x : Cond) (y : Word)
  | jumpHL
  | jumpRel (x : Byte)
  | jumpRelIf (x : Cond) (y : Byte)
  | call (x : Word)
  | callIf (x : Cond) (y : Word)
  | ret
  | retIf (x : Cond)
  | retI
  | restart (x : U3)
  | nop
  | halt
  | disableInterrupts
  | enableInterrupts
  | prefixCB
  | loadHigh (x : Byte)
  | storeHigh (x : Byte)
  | loadHighC
  | storeHighC
  | loadAbs (x : Word)
  | storeAbs (x : Word)
  | stop
  | illegal (opcode : Byte)

/-- What executing a form answers. -/
def Form.run (f : Form) (s : State) : Result :=
  match f with
  | .loadR8 x y => .next (Sys2Proof.Machine.loadR8 x y s)
  | .loadN8 x y => .next (Sys2Proof.Machine.loadN8 x y s)
  | .loadMem x => .next (Sys2Proof.Machine.loadMem x s)
  | .storeMem x => .next (Sys2Proof.Machine.storeMem x s)
  | .loadN16 x y => .next (Sys2Proof.Machine.loadN16 x y s)
  | .storeSP x => .next (Sys2Proof.Machine.storeSP x s)
  | .loadSPHL => .next (Sys2Proof.Machine.loadSPHL s)
  | .push x => .next (Sys2Proof.Machine.push x s)
  | .pop x => .next (Sys2Proof.Machine.pop x s)
  | .loadHLSP x => .next (Sys2Proof.Machine.loadHLSP x s)
  | .aluR8 x y => .next (Sys2Proof.Machine.aluR8 x y s)
  | .aluN8 x y => .next (Sys2Proof.Machine.aluN8 x y s)
  | .incR8 x => .next (Sys2Proof.Machine.incR8 x s)
  | .decR8 x => .next (Sys2Proof.Machine.decR8 x s)
  | .decimalAdjust => .next (Sys2Proof.Machine.decimalAdjust s)
  | .complementA => .next (Sys2Proof.Machine.complementA s)
  | .setCarry => .next (Sys2Proof.Machine.setCarry s)
  | .complementCarry => .next (Sys2Proof.Machine.complementCarry s)
  | .addHL x => .next (Sys2Proof.Machine.addHL x s)
  | .incR16 x => .next (Sys2Proof.Machine.incR16 x s)
  | .decR16 x => .next (Sys2Proof.Machine.decR16 x s)
  | .addSP x => .next (Sys2Proof.Machine.addSP x s)
  | .rotateA x => .next (Sys2Proof.Machine.rotateA x s)
  | .rotateR8 x y => .next (Sys2Proof.Machine.rotateR8 x y s)
  | .testBitR8 x y => .next (Sys2Proof.Machine.testBitR8 x y s)
  | .resetBitR8 x y => .next (Sys2Proof.Machine.resetBitR8 x y s)
  | .setBitR8 x y => .next (Sys2Proof.Machine.setBitR8 x y s)
  | .jump x => .next (Sys2Proof.Machine.jump x s)
  | .jumpIf x y => .next (Sys2Proof.Machine.jumpIf x y s)
  | .jumpHL => .next (Sys2Proof.Machine.jumpHL s)
  | .jumpRel x => .next (Sys2Proof.Machine.jumpRel x s)
  | .jumpRelIf x y => .next (Sys2Proof.Machine.jumpRelIf x y s)
  | .call x => .next (Sys2Proof.Machine.call x s)
  | .callIf x y => .next (Sys2Proof.Machine.callIf x y s)
  | .ret => .next (Sys2Proof.Machine.ret s)
  | .retIf x => .next (Sys2Proof.Machine.retIf x s)
  | .retI => .next (Sys2Proof.Machine.retI s)
  | .restart x => .next (Sys2Proof.Machine.restart x s)
  | .nop => .next (Sys2Proof.Machine.nop s)
  | .halt => .next (Sys2Proof.Machine.halt s)
  | .disableInterrupts => .next (Sys2Proof.Machine.disableInterrupts s)
  | .enableInterrupts => .next (Sys2Proof.Machine.enableInterrupts s)
  | .prefixCB => .next (Sys2Proof.Machine.prefixCB s)
  | .loadHigh x => .next (loadA 0xF0 (highPage x) 2 s)
  | .storeHigh x => .next (storeA 0xE0 (highPage x) 2 s)
  | .loadHighC => .next (loadA 0xF2 (highPage s.cpu.c) 1 s)
  | .storeHighC => .next (storeA 0xE2 (highPage s.cpu.c) 1 s)
  | .loadAbs x => .next (loadA 0xFA x 3 s)
  | .storeAbs x => .next (storeA 0xEA x 3 s)
  | .stop => stopFault s
  | .illegal opcode => illegalByte opcode s

/-- The form of an instruction. -/
def formOf : Instr → Form
  | .nop => .nop
  | .ld_BC_n16 n => .loadN16 .BC n
  | .ld_mBC_A => .storeMem .BC
  | .inc_BC => .incR16 .BC
  | .inc_B => .incR8 .B
  | .dec_B => .decR8 .B
  | .ld_B_n8 n => .loadN8 .B n
  | .rlca => .rotateA .rlc
  | .ld_ma16_SP a => .storeSP a
  | .add_HL_BC => .addHL .BC
  | .ld_A_mBC => .loadMem .BC
  | .dec_BC => .decR16 .BC
  | .inc_C => .incR8 .C
  | .dec_C => .decR8 .C
  | .ld_C_n8 n => .loadN8 .C n
  | .rrca => .rotateA .rrc
  | .stop _ => .stop
  | .ld_DE_n16 n => .loadN16 .DE n
  | .ld_mDE_A => .storeMem .DE
  | .inc_DE => .incR16 .DE
  | .inc_D => .incR8 .D
  | .dec_D => .decR8 .D
  | .ld_D_n8 n => .loadN8 .D n
  | .rla => .rotateA .rl
  | .jr_e8 e => .jumpRel e
  | .add_HL_DE => .addHL .DE
  | .ld_A_mDE => .loadMem .DE
  | .dec_DE => .decR16 .DE
  | .inc_E => .incR8 .E
  | .dec_E => .decR8 .E
  | .ld_E_n8 n => .loadN8 .E n
  | .rra => .rotateA .rr
  | .jr_NZ_e8 e => .jumpRelIf .NZ e
  | .ld_HL_n16 n => .loadN16 .HL n
  | .ld_mHLi_A => .storeMem .HLi
  | .inc_HL => .incR16 .HL
  | .inc_H => .incR8 .H
  | .dec_H => .decR8 .H
  | .ld_H_n8 n => .loadN8 .H n
  | .daa => .decimalAdjust
  | .jr_Z_e8 e => .jumpRelIf .Z e
  | .add_HL_HL => .addHL .HL
  | .ld_A_mHLi => .loadMem .HLi
  | .dec_HL => .decR16 .HL
  | .inc_L => .incR8 .L
  | .dec_L => .decR8 .L
  | .ld_L_n8 n => .loadN8 .L n
  | .cpl => .complementA
  | .jr_NC_e8 e => .jumpRelIf .NC e
  | .ld_SP_n16 n => .loadN16 .SP n
  | .ld_mHLd_A => .storeMem .HLd
  | .inc_SP => .incR16 .SP
  | .inc_mHL => .incR8 .mHL
  | .dec_mHL => .decR8 .mHL
  | .ld_mHL_n8 n => .loadN8 .mHL n
  | .scf => .setCarry
  | .jr_C_e8 e => .jumpRelIf .C e
  | .add_HL_SP => .addHL .SP
  | .ld_A_mHLd => .loadMem .HLd
  | .dec_SP => .decR16 .SP
  | .inc_A => .incR8 .A
  | .dec_A => .decR8 .A
  | .ld_A_n8 n => .loadN8 .A n
  | .ccf => .complementCarry
  | .ld_B_B => .loadR8 .B .B
  | .ld_B_C => .loadR8 .B .C
  | .ld_B_D => .loadR8 .B .D
  | .ld_B_E => .loadR8 .B .E
  | .ld_B_H => .loadR8 .B .H
  | .ld_B_L => .loadR8 .B .L
  | .ld_B_mHL => .loadR8 .B .mHL
  | .ld_B_A => .loadR8 .B .A
  | .ld_C_B => .loadR8 .C .B
  | .ld_C_C => .loadR8 .C .C
  | .ld_C_D => .loadR8 .C .D
  | .ld_C_E => .loadR8 .C .E
  | .ld_C_H => .loadR8 .C .H
  | .ld_C_L => .loadR8 .C .L
  | .ld_C_mHL => .loadR8 .C .mHL
  | .ld_C_A => .loadR8 .C .A
  | .ld_D_B => .loadR8 .D .B
  | .ld_D_C => .loadR8 .D .C
  | .ld_D_D => .loadR8 .D .D
  | .ld_D_E => .loadR8 .D .E
  | .ld_D_H => .loadR8 .D .H
  | .ld_D_L => .loadR8 .D .L
  | .ld_D_mHL => .loadR8 .D .mHL
  | .ld_D_A => .loadR8 .D .A
  | .ld_E_B => .loadR8 .E .B
  | .ld_E_C => .loadR8 .E .C
  | .ld_E_D => .loadR8 .E .D
  | .ld_E_E => .loadR8 .E .E
  | .ld_E_H => .loadR8 .E .H
  | .ld_E_L => .loadR8 .E .L
  | .ld_E_mHL => .loadR8 .E .mHL
  | .ld_E_A => .loadR8 .E .A
  | .ld_H_B => .loadR8 .H .B
  | .ld_H_C => .loadR8 .H .C
  | .ld_H_D => .loadR8 .H .D
  | .ld_H_E => .loadR8 .H .E
  | .ld_H_H => .loadR8 .H .H
  | .ld_H_L => .loadR8 .H .L
  | .ld_H_mHL => .loadR8 .H .mHL
  | .ld_H_A => .loadR8 .H .A
  | .ld_L_B => .loadR8 .L .B
  | .ld_L_C => .loadR8 .L .C
  | .ld_L_D => .loadR8 .L .D
  | .ld_L_E => .loadR8 .L .E
  | .ld_L_H => .loadR8 .L .H
  | .ld_L_L => .loadR8 .L .L
  | .ld_L_mHL => .loadR8 .L .mHL
  | .ld_L_A => .loadR8 .L .A
  | .ld_mHL_B => .loadR8 .mHL .B
  | .ld_mHL_C => .loadR8 .mHL .C
  | .ld_mHL_D => .loadR8 .mHL .D
  | .ld_mHL_E => .loadR8 .mHL .E
  | .ld_mHL_H => .loadR8 .mHL .H
  | .ld_mHL_L => .loadR8 .mHL .L
  | .halt => .halt
  | .ld_mHL_A => .loadR8 .mHL .A
  | .ld_A_B => .loadR8 .A .B
  | .ld_A_C => .loadR8 .A .C
  | .ld_A_D => .loadR8 .A .D
  | .ld_A_E => .loadR8 .A .E
  | .ld_A_H => .loadR8 .A .H
  | .ld_A_L => .loadR8 .A .L
  | .ld_A_mHL => .loadR8 .A .mHL
  | .ld_A_A => .loadR8 .A .A
  | .add_A_B => .aluR8 .add .B
  | .add_A_C => .aluR8 .add .C
  | .add_A_D => .aluR8 .add .D
  | .add_A_E => .aluR8 .add .E
  | .add_A_H => .aluR8 .add .H
  | .add_A_L => .aluR8 .add .L
  | .add_A_mHL => .aluR8 .add .mHL
  | .add_A_A => .aluR8 .add .A
  | .adc_A_B => .aluR8 .adc .B
  | .adc_A_C => .aluR8 .adc .C
  | .adc_A_D => .aluR8 .adc .D
  | .adc_A_E => .aluR8 .adc .E
  | .adc_A_H => .aluR8 .adc .H
  | .adc_A_L => .aluR8 .adc .L
  | .adc_A_mHL => .aluR8 .adc .mHL
  | .adc_A_A => .aluR8 .adc .A
  | .sub_B => .aluR8 .sub .B
  | .sub_C => .aluR8 .sub .C
  | .sub_D => .aluR8 .sub .D
  | .sub_E => .aluR8 .sub .E
  | .sub_H => .aluR8 .sub .H
  | .sub_L => .aluR8 .sub .L
  | .sub_mHL => .aluR8 .sub .mHL
  | .sub_A => .aluR8 .sub .A
  | .sbc_A_B => .aluR8 .sbc .B
  | .sbc_A_C => .aluR8 .sbc .C
  | .sbc_A_D => .aluR8 .sbc .D
  | .sbc_A_E => .aluR8 .sbc .E
  | .sbc_A_H => .aluR8 .sbc .H
  | .sbc_A_L => .aluR8 .sbc .L
  | .sbc_A_mHL => .aluR8 .sbc .mHL
  | .sbc_A_A => .aluR8 .sbc .A
  | .and_B => .aluR8 .and .B
  | .and_C => .aluR8 .and .C
  | .and_D => .aluR8 .and .D
  | .and_E => .aluR8 .and .E
  | .and_H => .aluR8 .and .H
  | .and_L => .aluR8 .and .L
  | .and_mHL => .aluR8 .and .mHL
  | .and_A => .aluR8 .and .A
  | .xor_B => .aluR8 .xor .B
  | .xor_C => .aluR8 .xor .C
  | .xor_D => .aluR8 .xor .D
  | .xor_E => .aluR8 .xor .E
  | .xor_H => .aluR8 .xor .H
  | .xor_L => .aluR8 .xor .L
  | .xor_mHL => .aluR8 .xor .mHL
  | .xor_A => .aluR8 .xor .A
  | .or_B => .aluR8 .or .B
  | .or_C => .aluR8 .or .C
  | .or_D => .aluR8 .or .D
  | .or_E => .aluR8 .or .E
  | .or_H => .aluR8 .or .H
  | .or_L => .aluR8 .or .L
  | .or_mHL => .aluR8 .or .mHL
  | .or_A => .aluR8 .or .A
  | .cp_B => .aluR8 .cp .B
  | .cp_C => .aluR8 .cp .C
  | .cp_D => .aluR8 .cp .D
  | .cp_E => .aluR8 .cp .E
  | .cp_H => .aluR8 .cp .H
  | .cp_L => .aluR8 .cp .L
  | .cp_mHL => .aluR8 .cp .mHL
  | .cp_A => .aluR8 .cp .A
  | .ret_NZ => .retIf .NZ
  | .pop_BC => .pop .BC
  | .jp_NZ_a16 a => .jumpIf .NZ a
  | .jp_a16 a => .jump a
  | .call_NZ_a16 a => .callIf .NZ a
  | .push_BC => .push .BC
  | .add_A_n8 n => .aluN8 .add n
  | .rst_00 => .restart .n0
  | .ret_Z => .retIf .Z
  | .ret => .ret
  | .jp_Z_a16 a => .jumpIf .Z a
  | .prefix_CB => .prefixCB
  | .call_Z_a16 a => .callIf .Z a
  | .call_a16 a => .call a
  | .adc_A_n8 n => .aluN8 .adc n
  | .rst_08 => .restart .n1
  | .ret_NC => .retIf .NC
  | .pop_DE => .pop .DE
  | .jp_NC_a16 a => .jumpIf .NC a
  | .illegal_D3 => .illegal 0xD3
  | .call_NC_a16 a => .callIf .NC a
  | .push_DE => .push .DE
  | .sub_n8 n => .aluN8 .sub n
  | .rst_10 => .restart .n2
  | .ret_C => .retIf .C
  | .reti => .retI
  | .jp_C_a16 a => .jumpIf .C a
  | .illegal_DB => .illegal 0xDB
  | .call_C_a16 a => .callIf .C a
  | .illegal_DD => .illegal 0xDD
  | .sbc_A_n8 n => .aluN8 .sbc n
  | .rst_18 => .restart .n3
  | .ldh_ma8_A a => .storeHigh a
  | .pop_HL => .pop .HL
  | .ldh_mC_A => .storeHighC
  | .illegal_E3 => .illegal 0xE3
  | .illegal_E4 => .illegal 0xE4
  | .push_HL => .push .HL
  | .and_n8 n => .aluN8 .and n
  | .rst_20 => .restart .n4
  | .add_SP_e8 e => .addSP e
  | .jp_HL => .jumpHL
  | .ld_ma16_A a => .storeAbs a
  | .illegal_EB => .illegal 0xEB
  | .illegal_EC => .illegal 0xEC
  | .illegal_ED => .illegal 0xED
  | .xor_n8 n => .aluN8 .xor n
  | .rst_28 => .restart .n5
  | .ldh_A_ma8 a => .loadHigh a
  | .pop_AF => .pop .AF
  | .ldh_A_mC => .loadHighC
  | .di => .disableInterrupts
  | .illegal_F4 => .illegal 0xF4
  | .push_AF => .push .AF
  | .or_n8 n => .aluN8 .or n
  | .rst_30 => .restart .n6
  | .ld_HL_SPe8 e => .loadHLSP e
  | .ld_SP_HL => .loadSPHL
  | .ld_A_ma16 a => .loadAbs a
  | .ei => .enableInterrupts
  | .illegal_FC => .illegal 0xFC
  | .illegal_FD => .illegal 0xFD
  | .cp_n8 n => .aluN8 .cp n
  | .rst_38 => .restart .n7
  | .rlc_B => .rotateR8 .rlc .B
  | .rlc_C => .rotateR8 .rlc .C
  | .rlc_D => .rotateR8 .rlc .D
  | .rlc_E => .rotateR8 .rlc .E
  | .rlc_H => .rotateR8 .rlc .H
  | .rlc_L => .rotateR8 .rlc .L
  | .rlc_mHL => .rotateR8 .rlc .mHL
  | .rlc_A => .rotateR8 .rlc .A
  | .rrc_B => .rotateR8 .rrc .B
  | .rrc_C => .rotateR8 .rrc .C
  | .rrc_D => .rotateR8 .rrc .D
  | .rrc_E => .rotateR8 .rrc .E
  | .rrc_H => .rotateR8 .rrc .H
  | .rrc_L => .rotateR8 .rrc .L
  | .rrc_mHL => .rotateR8 .rrc .mHL
  | .rrc_A => .rotateR8 .rrc .A
  | .rl_B => .rotateR8 .rl .B
  | .rl_C => .rotateR8 .rl .C
  | .rl_D => .rotateR8 .rl .D
  | .rl_E => .rotateR8 .rl .E
  | .rl_H => .rotateR8 .rl .H
  | .rl_L => .rotateR8 .rl .L
  | .rl_mHL => .rotateR8 .rl .mHL
  | .rl_A => .rotateR8 .rl .A
  | .rr_B => .rotateR8 .rr .B
  | .rr_C => .rotateR8 .rr .C
  | .rr_D => .rotateR8 .rr .D
  | .rr_E => .rotateR8 .rr .E
  | .rr_H => .rotateR8 .rr .H
  | .rr_L => .rotateR8 .rr .L
  | .rr_mHL => .rotateR8 .rr .mHL
  | .rr_A => .rotateR8 .rr .A
  | .sla_B => .rotateR8 .sla .B
  | .sla_C => .rotateR8 .sla .C
  | .sla_D => .rotateR8 .sla .D
  | .sla_E => .rotateR8 .sla .E
  | .sla_H => .rotateR8 .sla .H
  | .sla_L => .rotateR8 .sla .L
  | .sla_mHL => .rotateR8 .sla .mHL
  | .sla_A => .rotateR8 .sla .A
  | .sra_B => .rotateR8 .sra .B
  | .sra_C => .rotateR8 .sra .C
  | .sra_D => .rotateR8 .sra .D
  | .sra_E => .rotateR8 .sra .E
  | .sra_H => .rotateR8 .sra .H
  | .sra_L => .rotateR8 .sra .L
  | .sra_mHL => .rotateR8 .sra .mHL
  | .sra_A => .rotateR8 .sra .A
  | .swap_B => .rotateR8 .swap .B
  | .swap_C => .rotateR8 .swap .C
  | .swap_D => .rotateR8 .swap .D
  | .swap_E => .rotateR8 .swap .E
  | .swap_H => .rotateR8 .swap .H
  | .swap_L => .rotateR8 .swap .L
  | .swap_mHL => .rotateR8 .swap .mHL
  | .swap_A => .rotateR8 .swap .A
  | .srl_B => .rotateR8 .srl .B
  | .srl_C => .rotateR8 .srl .C
  | .srl_D => .rotateR8 .srl .D
  | .srl_E => .rotateR8 .srl .E
  | .srl_H => .rotateR8 .srl .H
  | .srl_L => .rotateR8 .srl .L
  | .srl_mHL => .rotateR8 .srl .mHL
  | .srl_A => .rotateR8 .srl .A
  | .bit_0_B => .testBitR8 .n0 .B
  | .bit_0_C => .testBitR8 .n0 .C
  | .bit_0_D => .testBitR8 .n0 .D
  | .bit_0_E => .testBitR8 .n0 .E
  | .bit_0_H => .testBitR8 .n0 .H
  | .bit_0_L => .testBitR8 .n0 .L
  | .bit_0_mHL => .testBitR8 .n0 .mHL
  | .bit_0_A => .testBitR8 .n0 .A
  | .bit_1_B => .testBitR8 .n1 .B
  | .bit_1_C => .testBitR8 .n1 .C
  | .bit_1_D => .testBitR8 .n1 .D
  | .bit_1_E => .testBitR8 .n1 .E
  | .bit_1_H => .testBitR8 .n1 .H
  | .bit_1_L => .testBitR8 .n1 .L
  | .bit_1_mHL => .testBitR8 .n1 .mHL
  | .bit_1_A => .testBitR8 .n1 .A
  | .bit_2_B => .testBitR8 .n2 .B
  | .bit_2_C => .testBitR8 .n2 .C
  | .bit_2_D => .testBitR8 .n2 .D
  | .bit_2_E => .testBitR8 .n2 .E
  | .bit_2_H => .testBitR8 .n2 .H
  | .bit_2_L => .testBitR8 .n2 .L
  | .bit_2_mHL => .testBitR8 .n2 .mHL
  | .bit_2_A => .testBitR8 .n2 .A
  | .bit_3_B => .testBitR8 .n3 .B
  | .bit_3_C => .testBitR8 .n3 .C
  | .bit_3_D => .testBitR8 .n3 .D
  | .bit_3_E => .testBitR8 .n3 .E
  | .bit_3_H => .testBitR8 .n3 .H
  | .bit_3_L => .testBitR8 .n3 .L
  | .bit_3_mHL => .testBitR8 .n3 .mHL
  | .bit_3_A => .testBitR8 .n3 .A
  | .bit_4_B => .testBitR8 .n4 .B
  | .bit_4_C => .testBitR8 .n4 .C
  | .bit_4_D => .testBitR8 .n4 .D
  | .bit_4_E => .testBitR8 .n4 .E
  | .bit_4_H => .testBitR8 .n4 .H
  | .bit_4_L => .testBitR8 .n4 .L
  | .bit_4_mHL => .testBitR8 .n4 .mHL
  | .bit_4_A => .testBitR8 .n4 .A
  | .bit_5_B => .testBitR8 .n5 .B
  | .bit_5_C => .testBitR8 .n5 .C
  | .bit_5_D => .testBitR8 .n5 .D
  | .bit_5_E => .testBitR8 .n5 .E
  | .bit_5_H => .testBitR8 .n5 .H
  | .bit_5_L => .testBitR8 .n5 .L
  | .bit_5_mHL => .testBitR8 .n5 .mHL
  | .bit_5_A => .testBitR8 .n5 .A
  | .bit_6_B => .testBitR8 .n6 .B
  | .bit_6_C => .testBitR8 .n6 .C
  | .bit_6_D => .testBitR8 .n6 .D
  | .bit_6_E => .testBitR8 .n6 .E
  | .bit_6_H => .testBitR8 .n6 .H
  | .bit_6_L => .testBitR8 .n6 .L
  | .bit_6_mHL => .testBitR8 .n6 .mHL
  | .bit_6_A => .testBitR8 .n6 .A
  | .bit_7_B => .testBitR8 .n7 .B
  | .bit_7_C => .testBitR8 .n7 .C
  | .bit_7_D => .testBitR8 .n7 .D
  | .bit_7_E => .testBitR8 .n7 .E
  | .bit_7_H => .testBitR8 .n7 .H
  | .bit_7_L => .testBitR8 .n7 .L
  | .bit_7_mHL => .testBitR8 .n7 .mHL
  | .bit_7_A => .testBitR8 .n7 .A
  | .res_0_B => .resetBitR8 .n0 .B
  | .res_0_C => .resetBitR8 .n0 .C
  | .res_0_D => .resetBitR8 .n0 .D
  | .res_0_E => .resetBitR8 .n0 .E
  | .res_0_H => .resetBitR8 .n0 .H
  | .res_0_L => .resetBitR8 .n0 .L
  | .res_0_mHL => .resetBitR8 .n0 .mHL
  | .res_0_A => .resetBitR8 .n0 .A
  | .res_1_B => .resetBitR8 .n1 .B
  | .res_1_C => .resetBitR8 .n1 .C
  | .res_1_D => .resetBitR8 .n1 .D
  | .res_1_E => .resetBitR8 .n1 .E
  | .res_1_H => .resetBitR8 .n1 .H
  | .res_1_L => .resetBitR8 .n1 .L
  | .res_1_mHL => .resetBitR8 .n1 .mHL
  | .res_1_A => .resetBitR8 .n1 .A
  | .res_2_B => .resetBitR8 .n2 .B
  | .res_2_C => .resetBitR8 .n2 .C
  | .res_2_D => .resetBitR8 .n2 .D
  | .res_2_E => .resetBitR8 .n2 .E
  | .res_2_H => .resetBitR8 .n2 .H
  | .res_2_L => .resetBitR8 .n2 .L
  | .res_2_mHL => .resetBitR8 .n2 .mHL
  | .res_2_A => .resetBitR8 .n2 .A
  | .res_3_B => .resetBitR8 .n3 .B
  | .res_3_C => .resetBitR8 .n3 .C
  | .res_3_D => .resetBitR8 .n3 .D
  | .res_3_E => .resetBitR8 .n3 .E
  | .res_3_H => .resetBitR8 .n3 .H
  | .res_3_L => .resetBitR8 .n3 .L
  | .res_3_mHL => .resetBitR8 .n3 .mHL
  | .res_3_A => .resetBitR8 .n3 .A
  | .res_4_B => .resetBitR8 .n4 .B
  | .res_4_C => .resetBitR8 .n4 .C
  | .res_4_D => .resetBitR8 .n4 .D
  | .res_4_E => .resetBitR8 .n4 .E
  | .res_4_H => .resetBitR8 .n4 .H
  | .res_4_L => .resetBitR8 .n4 .L
  | .res_4_mHL => .resetBitR8 .n4 .mHL
  | .res_4_A => .resetBitR8 .n4 .A
  | .res_5_B => .resetBitR8 .n5 .B
  | .res_5_C => .resetBitR8 .n5 .C
  | .res_5_D => .resetBitR8 .n5 .D
  | .res_5_E => .resetBitR8 .n5 .E
  | .res_5_H => .resetBitR8 .n5 .H
  | .res_5_L => .resetBitR8 .n5 .L
  | .res_5_mHL => .resetBitR8 .n5 .mHL
  | .res_5_A => .resetBitR8 .n5 .A
  | .res_6_B => .resetBitR8 .n6 .B
  | .res_6_C => .resetBitR8 .n6 .C
  | .res_6_D => .resetBitR8 .n6 .D
  | .res_6_E => .resetBitR8 .n6 .E
  | .res_6_H => .resetBitR8 .n6 .H
  | .res_6_L => .resetBitR8 .n6 .L
  | .res_6_mHL => .resetBitR8 .n6 .mHL
  | .res_6_A => .resetBitR8 .n6 .A
  | .res_7_B => .resetBitR8 .n7 .B
  | .res_7_C => .resetBitR8 .n7 .C
  | .res_7_D => .resetBitR8 .n7 .D
  | .res_7_E => .resetBitR8 .n7 .E
  | .res_7_H => .resetBitR8 .n7 .H
  | .res_7_L => .resetBitR8 .n7 .L
  | .res_7_mHL => .resetBitR8 .n7 .mHL
  | .res_7_A => .resetBitR8 .n7 .A
  | .set_0_B => .setBitR8 .n0 .B
  | .set_0_C => .setBitR8 .n0 .C
  | .set_0_D => .setBitR8 .n0 .D
  | .set_0_E => .setBitR8 .n0 .E
  | .set_0_H => .setBitR8 .n0 .H
  | .set_0_L => .setBitR8 .n0 .L
  | .set_0_mHL => .setBitR8 .n0 .mHL
  | .set_0_A => .setBitR8 .n0 .A
  | .set_1_B => .setBitR8 .n1 .B
  | .set_1_C => .setBitR8 .n1 .C
  | .set_1_D => .setBitR8 .n1 .D
  | .set_1_E => .setBitR8 .n1 .E
  | .set_1_H => .setBitR8 .n1 .H
  | .set_1_L => .setBitR8 .n1 .L
  | .set_1_mHL => .setBitR8 .n1 .mHL
  | .set_1_A => .setBitR8 .n1 .A
  | .set_2_B => .setBitR8 .n2 .B
  | .set_2_C => .setBitR8 .n2 .C
  | .set_2_D => .setBitR8 .n2 .D
  | .set_2_E => .setBitR8 .n2 .E
  | .set_2_H => .setBitR8 .n2 .H
  | .set_2_L => .setBitR8 .n2 .L
  | .set_2_mHL => .setBitR8 .n2 .mHL
  | .set_2_A => .setBitR8 .n2 .A
  | .set_3_B => .setBitR8 .n3 .B
  | .set_3_C => .setBitR8 .n3 .C
  | .set_3_D => .setBitR8 .n3 .D
  | .set_3_E => .setBitR8 .n3 .E
  | .set_3_H => .setBitR8 .n3 .H
  | .set_3_L => .setBitR8 .n3 .L
  | .set_3_mHL => .setBitR8 .n3 .mHL
  | .set_3_A => .setBitR8 .n3 .A
  | .set_4_B => .setBitR8 .n4 .B
  | .set_4_C => .setBitR8 .n4 .C
  | .set_4_D => .setBitR8 .n4 .D
  | .set_4_E => .setBitR8 .n4 .E
  | .set_4_H => .setBitR8 .n4 .H
  | .set_4_L => .setBitR8 .n4 .L
  | .set_4_mHL => .setBitR8 .n4 .mHL
  | .set_4_A => .setBitR8 .n4 .A
  | .set_5_B => .setBitR8 .n5 .B
  | .set_5_C => .setBitR8 .n5 .C
  | .set_5_D => .setBitR8 .n5 .D
  | .set_5_E => .setBitR8 .n5 .E
  | .set_5_H => .setBitR8 .n5 .H
  | .set_5_L => .setBitR8 .n5 .L
  | .set_5_mHL => .setBitR8 .n5 .mHL
  | .set_5_A => .setBitR8 .n5 .A
  | .set_6_B => .setBitR8 .n6 .B
  | .set_6_C => .setBitR8 .n6 .C
  | .set_6_D => .setBitR8 .n6 .D
  | .set_6_E => .setBitR8 .n6 .E
  | .set_6_H => .setBitR8 .n6 .H
  | .set_6_L => .setBitR8 .n6 .L
  | .set_6_mHL => .setBitR8 .n6 .mHL
  | .set_6_A => .setBitR8 .n6 .A
  | .set_7_B => .setBitR8 .n7 .B
  | .set_7_C => .setBitR8 .n7 .C
  | .set_7_D => .setBitR8 .n7 .D
  | .set_7_E => .setBitR8 .n7 .E
  | .set_7_H => .setBitR8 .n7 .H
  | .set_7_L => .setBitR8 .n7 .L
  | .set_7_mHL => .setBitR8 .n7 .mHL
  | .set_7_A => .setBitR8 .n7 .A

/-- Executing an instruction runs its form. -/
theorem exec_form (i : Instr) (s : State) : exec i s = (formOf i).run s := by
  cases i <;> rfl

end Sys2Proof.Machine
end

