-- ==== Sys2Proof/Laws/State.lean ====
section
/-! SUPPORT. What each named update of the state leaves in each field: one lemma a field and update, true
by rfl. -/

namespace Sys2Proof.Machine

/-! ## setA -/

@[simp] theorem setA_cpu_a (s : State) (v : Byte) : (s.setA v).cpu.a = v := rfl
@[simp] theorem setA_cpu_f (s : State) (v : Byte) : (s.setA v).cpu.f = s.cpu.f := rfl
@[simp] theorem setA_cpu_b (s : State) (v : Byte) : (s.setA v).cpu.b = s.cpu.b := rfl
@[simp] theorem setA_cpu_c (s : State) (v : Byte) : (s.setA v).cpu.c = s.cpu.c := rfl
@[simp] theorem setA_cpu_d (s : State) (v : Byte) : (s.setA v).cpu.d = s.cpu.d := rfl
@[simp] theorem setA_cpu_e (s : State) (v : Byte) : (s.setA v).cpu.e = s.cpu.e := rfl
@[simp] theorem setA_cpu_h (s : State) (v : Byte) : (s.setA v).cpu.h = s.cpu.h := rfl
@[simp] theorem setA_cpu_l (s : State) (v : Byte) : (s.setA v).cpu.l = s.cpu.l := rfl
@[simp] theorem setA_cpu_sp (s : State) (v : Byte) : (s.setA v).cpu.sp = s.cpu.sp := rfl
@[simp] theorem setA_cpu_pc (s : State) (v : Byte) : (s.setA v).cpu.pc = s.cpu.pc := rfl
@[simp] theorem setA_cpu_ime (s : State) (v : Byte) : (s.setA v).cpu.ime = s.cpu.ime := rfl
@[simp] theorem setA_cpu_runState (s : State) (v : Byte) : (s.setA v).cpu.runState = s.cpu.runState := rfl
@[simp] theorem setA_cpu_eiPending (s : State) (v : Byte) : (s.setA v).cpu.eiPending = s.cpu.eiPending := rfl
@[simp] theorem setA_cpu_haltBugPending (s : State) (v : Byte) : (s.setA v).cpu.haltBugPending = s.cpu.haltBugPending := rfl
@[simp] theorem setA_irq (s : State) (v : Byte) : (s.setA v).irq = s.irq := rfl
@[simp] theorem setA_timer (s : State) (v : Byte) : (s.setA v).timer = s.timer := rfl
@[simp] theorem setA_dma (s : State) (v : Byte) : (s.setA v).dma = s.dma := rfl
@[simp] theorem setA_ppu (s : State) (v : Byte) : (s.setA v).ppu = s.ppu := rfl
@[simp] theorem setA_sound (s : State) (v : Byte) : (s.setA v).sound = s.sound := rfl
@[simp] theorem setA_p1Select (s : State) (v : Byte) : (s.setA v).p1Select = s.p1Select := rfl
@[simp] theorem setA_sb (s : State) (v : Byte) : (s.setA v).sb = s.sb := rfl
@[simp] theorem setA_sc (s : State) (v : Byte) : (s.setA v).sc = s.sc := rfl
@[simp] theorem setA_buttons (s : State) (v : Byte) : (s.setA v).buttons = s.buttons := rfl
@[simp] theorem setA_cart (s : State) (v : Byte) : (s.setA v).cart = s.cart := rfl
@[simp] theorem setA_mem (s : State) (v : Byte) : (s.setA v).mem = s.mem := rfl
@[simp] theorem setA_overlayActive (s : State) (v : Byte) : (s.setA v).overlayActive = s.overlayActive := rfl
@[simp] theorem setA_fault (s : State) (v : Byte) : (s.setA v).fault = s.fault := rfl
@[simp] theorem setA_params (s : State) (v : Byte) : (s.setA v).params = s.params := rfl
@[simp] theorem setA_cycles (s : State) (v : Byte) : (s.setA v).cycles = s.cycles := rfl

/-! ## setBC -/

@[simp] theorem setBC_cpu_a (s : State) (v : Word) : (s.setBC v).cpu.a = s.cpu.a := rfl
@[simp] theorem setBC_cpu_f (s : State) (v : Word) : (s.setBC v).cpu.f = s.cpu.f := rfl
@[simp] theorem setBC_cpu_b (s : State) (v : Word) : (s.setBC v).cpu.b = hiByte v := rfl
@[simp] theorem setBC_cpu_c (s : State) (v : Word) : (s.setBC v).cpu.c = loByte v := rfl
@[simp] theorem setBC_cpu_d (s : State) (v : Word) : (s.setBC v).cpu.d = s.cpu.d := rfl
@[simp] theorem setBC_cpu_e (s : State) (v : Word) : (s.setBC v).cpu.e = s.cpu.e := rfl
@[simp] theorem setBC_cpu_h (s : State) (v : Word) : (s.setBC v).cpu.h = s.cpu.h := rfl
@[simp] theorem setBC_cpu_l (s : State) (v : Word) : (s.setBC v).cpu.l = s.cpu.l := rfl
@[simp] theorem setBC_cpu_sp (s : State) (v : Word) : (s.setBC v).cpu.sp = s.cpu.sp := rfl
@[simp] theorem setBC_cpu_pc (s : State) (v : Word) : (s.setBC v).cpu.pc = s.cpu.pc := rfl
@[simp] theorem setBC_cpu_ime (s : State) (v : Word) : (s.setBC v).cpu.ime = s.cpu.ime := rfl
@[simp] theorem setBC_cpu_runState (s : State) (v : Word) : (s.setBC v).cpu.runState = s.cpu.runState := rfl
@[simp] theorem setBC_cpu_eiPending (s : State) (v : Word) : (s.setBC v).cpu.eiPending = s.cpu.eiPending := rfl
@[simp] theorem setBC_cpu_haltBugPending (s : State) (v : Word) : (s.setBC v).cpu.haltBugPending = s.cpu.haltBugPending := rfl
@[simp] theorem setBC_irq (s : State) (v : Word) : (s.setBC v).irq = s.irq := rfl
@[simp] theorem setBC_timer (s : State) (v : Word) : (s.setBC v).timer = s.timer := rfl
@[simp] theorem setBC_dma (s : State) (v : Word) : (s.setBC v).dma = s.dma := rfl
@[simp] theorem setBC_ppu (s : State) (v : Word) : (s.setBC v).ppu = s.ppu := rfl
@[simp] theorem setBC_sound (s : State) (v : Word) : (s.setBC v).sound = s.sound := rfl
@[simp] theorem setBC_p1Select (s : State) (v : Word) : (s.setBC v).p1Select = s.p1Select := rfl
@[simp] theorem setBC_sb (s : State) (v : Word) : (s.setBC v).sb = s.sb := rfl
@[simp] theorem setBC_sc (s : State) (v : Word) : (s.setBC v).sc = s.sc := rfl
@[simp] theorem setBC_buttons (s : State) (v : Word) : (s.setBC v).buttons = s.buttons := rfl
@[simp] theorem setBC_cart (s : State) (v : Word) : (s.setBC v).cart = s.cart := rfl
@[simp] theorem setBC_mem (s : State) (v : Word) : (s.setBC v).mem = s.mem := rfl
@[simp] theorem setBC_overlayActive (s : State) (v : Word) : (s.setBC v).overlayActive = s.overlayActive := rfl
@[simp] theorem setBC_fault (s : State) (v : Word) : (s.setBC v).fault = s.fault := rfl
@[simp] theorem setBC_params (s : State) (v : Word) : (s.setBC v).params = s.params := rfl
@[simp] theorem setBC_cycles (s : State) (v : Word) : (s.setBC v).cycles = s.cycles := rfl

/-! ## setDE -/

@[simp] theorem setDE_cpu_a (s : State) (v : Word) : (s.setDE v).cpu.a = s.cpu.a := rfl
@[simp] theorem setDE_cpu_f (s : State) (v : Word) : (s.setDE v).cpu.f = s.cpu.f := rfl
@[simp] theorem setDE_cpu_b (s : State) (v : Word) : (s.setDE v).cpu.b = s.cpu.b := rfl
@[simp] theorem setDE_cpu_c (s : State) (v : Word) : (s.setDE v).cpu.c = s.cpu.c := rfl
@[simp] theorem setDE_cpu_d (s : State) (v : Word) : (s.setDE v).cpu.d = hiByte v := rfl
@[simp] theorem setDE_cpu_e (s : State) (v : Word) : (s.setDE v).cpu.e = loByte v := rfl
@[simp] theorem setDE_cpu_h (s : State) (v : Word) : (s.setDE v).cpu.h = s.cpu.h := rfl
@[simp] theorem setDE_cpu_l (s : State) (v : Word) : (s.setDE v).cpu.l = s.cpu.l := rfl
@[simp] theorem setDE_cpu_sp (s : State) (v : Word) : (s.setDE v).cpu.sp = s.cpu.sp := rfl
@[simp] theorem setDE_cpu_pc (s : State) (v : Word) : (s.setDE v).cpu.pc = s.cpu.pc := rfl
@[simp] theorem setDE_cpu_ime (s : State) (v : Word) : (s.setDE v).cpu.ime = s.cpu.ime := rfl
@[simp] theorem setDE_cpu_runState (s : State) (v : Word) : (s.setDE v).cpu.runState = s.cpu.runState := rfl
@[simp] theorem setDE_cpu_eiPending (s : State) (v : Word) : (s.setDE v).cpu.eiPending = s.cpu.eiPending := rfl
@[simp] theorem setDE_cpu_haltBugPending (s : State) (v : Word) : (s.setDE v).cpu.haltBugPending = s.cpu.haltBugPending := rfl
@[simp] theorem setDE_irq (s : State) (v : Word) : (s.setDE v).irq = s.irq := rfl
@[simp] theorem setDE_timer (s : State) (v : Word) : (s.setDE v).timer = s.timer := rfl
@[simp] theorem setDE_dma (s : State) (v : Word) : (s.setDE v).dma = s.dma := rfl
@[simp] theorem setDE_ppu (s : State) (v : Word) : (s.setDE v).ppu = s.ppu := rfl
@[simp] theorem setDE_sound (s : State) (v : Word) : (s.setDE v).sound = s.sound := rfl
@[simp] theorem setDE_p1Select (s : State) (v : Word) : (s.setDE v).p1Select = s.p1Select := rfl
@[simp] theorem setDE_sb (s : State) (v : Word) : (s.setDE v).sb = s.sb := rfl
@[simp] theorem setDE_sc (s : State) (v : Word) : (s.setDE v).sc = s.sc := rfl
@[simp] theorem setDE_buttons (s : State) (v : Word) : (s.setDE v).buttons = s.buttons := rfl
@[simp] theorem setDE_cart (s : State) (v : Word) : (s.setDE v).cart = s.cart := rfl
@[simp] theorem setDE_mem (s : State) (v : Word) : (s.setDE v).mem = s.mem := rfl
@[simp] theorem setDE_overlayActive (s : State) (v : Word) : (s.setDE v).overlayActive = s.overlayActive := rfl
@[simp] theorem setDE_fault (s : State) (v : Word) : (s.setDE v).fault = s.fault := rfl
@[simp] theorem setDE_params (s : State) (v : Word) : (s.setDE v).params = s.params := rfl
@[simp] theorem setDE_cycles (s : State) (v : Word) : (s.setDE v).cycles = s.cycles := rfl

/-! ## setHL -/

@[simp] theorem setHL_cpu_a (s : State) (v : Word) : (s.setHL v).cpu.a = s.cpu.a := rfl
@[simp] theorem setHL_cpu_f (s : State) (v : Word) : (s.setHL v).cpu.f = s.cpu.f := rfl
@[simp] theorem setHL_cpu_b (s : State) (v : Word) : (s.setHL v).cpu.b = s.cpu.b := rfl
@[simp] theorem setHL_cpu_c (s : State) (v : Word) : (s.setHL v).cpu.c = s.cpu.c := rfl
@[simp] theorem setHL_cpu_d (s : State) (v : Word) : (s.setHL v).cpu.d = s.cpu.d := rfl
@[simp] theorem setHL_cpu_e (s : State) (v : Word) : (s.setHL v).cpu.e = s.cpu.e := rfl
@[simp] theorem setHL_cpu_h (s : State) (v : Word) : (s.setHL v).cpu.h = hiByte v := rfl
@[simp] theorem setHL_cpu_l (s : State) (v : Word) : (s.setHL v).cpu.l = loByte v := rfl
@[simp] theorem setHL_cpu_sp (s : State) (v : Word) : (s.setHL v).cpu.sp = s.cpu.sp := rfl
@[simp] theorem setHL_cpu_pc (s : State) (v : Word) : (s.setHL v).cpu.pc = s.cpu.pc := rfl
@[simp] theorem setHL_cpu_ime (s : State) (v : Word) : (s.setHL v).cpu.ime = s.cpu.ime := rfl
@[simp] theorem setHL_cpu_runState (s : State) (v : Word) : (s.setHL v).cpu.runState = s.cpu.runState := rfl
@[simp] theorem setHL_cpu_eiPending (s : State) (v : Word) : (s.setHL v).cpu.eiPending = s.cpu.eiPending := rfl
@[simp] theorem setHL_cpu_haltBugPending (s : State) (v : Word) : (s.setHL v).cpu.haltBugPending = s.cpu.haltBugPending := rfl
@[simp] theorem setHL_irq (s : State) (v : Word) : (s.setHL v).irq = s.irq := rfl
@[simp] theorem setHL_timer (s : State) (v : Word) : (s.setHL v).timer = s.timer := rfl
@[simp] theorem setHL_dma (s : State) (v : Word) : (s.setHL v).dma = s.dma := rfl
@[simp] theorem setHL_ppu (s : State) (v : Word) : (s.setHL v).ppu = s.ppu := rfl
@[simp] theorem setHL_sound (s : State) (v : Word) : (s.setHL v).sound = s.sound := rfl
@[simp] theorem setHL_p1Select (s : State) (v : Word) : (s.setHL v).p1Select = s.p1Select := rfl
@[simp] theorem setHL_sb (s : State) (v : Word) : (s.setHL v).sb = s.sb := rfl
@[simp] theorem setHL_sc (s : State) (v : Word) : (s.setHL v).sc = s.sc := rfl
@[simp] theorem setHL_buttons (s : State) (v : Word) : (s.setHL v).buttons = s.buttons := rfl
@[simp] theorem setHL_cart (s : State) (v : Word) : (s.setHL v).cart = s.cart := rfl
@[simp] theorem setHL_mem (s : State) (v : Word) : (s.setHL v).mem = s.mem := rfl
@[simp] theorem setHL_overlayActive (s : State) (v : Word) : (s.setHL v).overlayActive = s.overlayActive := rfl
@[simp] theorem setHL_fault (s : State) (v : Word) : (s.setHL v).fault = s.fault := rfl
@[simp] theorem setHL_params (s : State) (v : Word) : (s.setHL v).params = s.params := rfl
@[simp] theorem setHL_cycles (s : State) (v : Word) : (s.setHL v).cycles = s.cycles := rfl

/-! ## setF -/

@[simp] theorem setF_cpu_a (s : State) (v : Byte) : (s.setF v).cpu.a = s.cpu.a := rfl
@[simp] theorem setF_cpu_f (s : State) (v : Byte) : (s.setF v).cpu.f = v &&& 0xF0 := rfl
@[simp] theorem setF_cpu_b (s : State) (v : Byte) : (s.setF v).cpu.b = s.cpu.b := rfl
@[simp] theorem setF_cpu_c (s : State) (v : Byte) : (s.setF v).cpu.c = s.cpu.c := rfl
@[simp] theorem setF_cpu_d (s : State) (v : Byte) : (s.setF v).cpu.d = s.cpu.d := rfl
@[simp] theorem setF_cpu_e (s : State) (v : Byte) : (s.setF v).cpu.e = s.cpu.e := rfl
@[simp] theorem setF_cpu_h (s : State) (v : Byte) : (s.setF v).cpu.h = s.cpu.h := rfl
@[simp] theorem setF_cpu_l (s : State) (v : Byte) : (s.setF v).cpu.l = s.cpu.l := rfl
@[simp] theorem setF_cpu_sp (s : State) (v : Byte) : (s.setF v).cpu.sp = s.cpu.sp := rfl
@[simp] theorem setF_cpu_pc (s : State) (v : Byte) : (s.setF v).cpu.pc = s.cpu.pc := rfl
@[simp] theorem setF_cpu_ime (s : State) (v : Byte) : (s.setF v).cpu.ime = s.cpu.ime := rfl
@[simp] theorem setF_cpu_runState (s : State) (v : Byte) : (s.setF v).cpu.runState = s.cpu.runState := rfl
@[simp] theorem setF_cpu_eiPending (s : State) (v : Byte) : (s.setF v).cpu.eiPending = s.cpu.eiPending := rfl
@[simp] theorem setF_cpu_haltBugPending (s : State) (v : Byte) : (s.setF v).cpu.haltBugPending = s.cpu.haltBugPending := rfl
@[simp] theorem setF_irq (s : State) (v : Byte) : (s.setF v).irq = s.irq := rfl
@[simp] theorem setF_timer (s : State) (v : Byte) : (s.setF v).timer = s.timer := rfl
@[simp] theorem setF_dma (s : State) (v : Byte) : (s.setF v).dma = s.dma := rfl
@[simp] theorem setF_ppu (s : State) (v : Byte) : (s.setF v).ppu = s.ppu := rfl
@[simp] theorem setF_sound (s : State) (v : Byte) : (s.setF v).sound = s.sound := rfl
@[simp] theorem setF_p1Select (s : State) (v : Byte) : (s.setF v).p1Select = s.p1Select := rfl
@[simp] theorem setF_sb (s : State) (v : Byte) : (s.setF v).sb = s.sb := rfl
@[simp] theorem setF_sc (s : State) (v : Byte) : (s.setF v).sc = s.sc := rfl
@[simp] theorem setF_buttons (s : State) (v : Byte) : (s.setF v).buttons = s.buttons := rfl
@[simp] theorem setF_cart (s : State) (v : Byte) : (s.setF v).cart = s.cart := rfl
@[simp] theorem setF_mem (s : State) (v : Byte) : (s.setF v).mem = s.mem := rfl
@[simp] theorem setF_overlayActive (s : State) (v : Byte) : (s.setF v).overlayActive = s.overlayActive := rfl
@[simp] theorem setF_fault (s : State) (v : Byte) : (s.setF v).fault = s.fault := rfl
@[simp] theorem setF_params (s : State) (v : Byte) : (s.setF v).params = s.params := rfl
@[simp] theorem setF_cycles (s : State) (v : Byte) : (s.setF v).cycles = s.cycles := rfl

/-! ## setFlags -/

@[simp] theorem setFlags_cpu_a (s : State) (f : Flags) : (s.setFlags f).cpu.a = s.cpu.a := rfl
@[simp] theorem setFlags_cpu_f (s : State) (f : Flags) : (s.setFlags f).cpu.f = f.toByte &&& 0xF0 := rfl
@[simp] theorem setFlags_cpu_b (s : State) (f : Flags) : (s.setFlags f).cpu.b = s.cpu.b := rfl
@[simp] theorem setFlags_cpu_c (s : State) (f : Flags) : (s.setFlags f).cpu.c = s.cpu.c := rfl
@[simp] theorem setFlags_cpu_d (s : State) (f : Flags) : (s.setFlags f).cpu.d = s.cpu.d := rfl
@[simp] theorem setFlags_cpu_e (s : State) (f : Flags) : (s.setFlags f).cpu.e = s.cpu.e := rfl
@[simp] theorem setFlags_cpu_h (s : State) (f : Flags) : (s.setFlags f).cpu.h = s.cpu.h := rfl
@[simp] theorem setFlags_cpu_l (s : State) (f : Flags) : (s.setFlags f).cpu.l = s.cpu.l := rfl
@[simp] theorem setFlags_cpu_sp (s : State) (f : Flags) : (s.setFlags f).cpu.sp = s.cpu.sp := rfl
@[simp] theorem setFlags_cpu_pc (s : State) (f : Flags) : (s.setFlags f).cpu.pc = s.cpu.pc := rfl
@[simp] theorem setFlags_cpu_ime (s : State) (f : Flags) : (s.setFlags f).cpu.ime = s.cpu.ime := rfl
@[simp] theorem setFlags_cpu_runState (s : State) (f : Flags) : (s.setFlags f).cpu.runState = s.cpu.runState := rfl
@[simp] theorem setFlags_cpu_eiPending (s : State) (f : Flags) : (s.setFlags f).cpu.eiPending = s.cpu.eiPending := rfl
@[simp] theorem setFlags_cpu_haltBugPending (s : State) (f : Flags) : (s.setFlags f).cpu.haltBugPending = s.cpu.haltBugPending := rfl
@[simp] theorem setFlags_irq (s : State) (f : Flags) : (s.setFlags f).irq = s.irq := rfl
@[simp] theorem setFlags_timer (s : State) (f : Flags) : (s.setFlags f).timer = s.timer := rfl
@[simp] theorem setFlags_dma (s : State) (f : Flags) : (s.setFlags f).dma = s.dma := rfl
@[simp] theorem setFlags_ppu (s : State) (f : Flags) : (s.setFlags f).ppu = s.ppu := rfl
@[simp] theorem setFlags_sound (s : State) (f : Flags) : (s.setFlags f).sound = s.sound := rfl
@[simp] theorem setFlags_p1Select (s : State) (f : Flags) : (s.setFlags f).p1Select = s.p1Select := rfl
@[simp] theorem setFlags_sb (s : State) (f : Flags) : (s.setFlags f).sb = s.sb := rfl
@[simp] theorem setFlags_sc (s : State) (f : Flags) : (s.setFlags f).sc = s.sc := rfl
@[simp] theorem setFlags_buttons (s : State) (f : Flags) : (s.setFlags f).buttons = s.buttons := rfl
@[simp] theorem setFlags_cart (s : State) (f : Flags) : (s.setFlags f).cart = s.cart := rfl
@[simp] theorem setFlags_mem (s : State) (f : Flags) : (s.setFlags f).mem = s.mem := rfl
@[simp] theorem setFlags_overlayActive (s : State) (f : Flags) : (s.setFlags f).overlayActive = s.overlayActive := rfl
@[simp] theorem setFlags_fault (s : State) (f : Flags) : (s.setFlags f).fault = s.fault := rfl
@[simp] theorem setFlags_params (s : State) (f : Flags) : (s.setFlags f).params = s.params := rfl
@[simp] theorem setFlags_cycles (s : State) (f : Flags) : (s.setFlags f).cycles = s.cycles := rfl

/-! ## setSP -/

@[simp] theorem setSP_cpu_a (s : State) (v : Word) : (s.setSP v).cpu.a = s.cpu.a := rfl
@[simp] theorem setSP_cpu_f (s : State) (v : Word) : (s.setSP v).cpu.f = s.cpu.f := rfl
@[simp] theorem setSP_cpu_b (s : State) (v : Word) : (s.setSP v).cpu.b = s.cpu.b := rfl
@[simp] theorem setSP_cpu_c (s : State) (v : Word) : (s.setSP v).cpu.c = s.cpu.c := rfl
@[simp] theorem setSP_cpu_d (s : State) (v : Word) : (s.setSP v).cpu.d = s.cpu.d := rfl
@[simp] theorem setSP_cpu_e (s : State) (v : Word) : (s.setSP v).cpu.e = s.cpu.e := rfl
@[simp] theorem setSP_cpu_h (s : State) (v : Word) : (s.setSP v).cpu.h = s.cpu.h := rfl
@[simp] theorem setSP_cpu_l (s : State) (v : Word) : (s.setSP v).cpu.l = s.cpu.l := rfl
@[simp] theorem setSP_cpu_sp (s : State) (v : Word) : (s.setSP v).cpu.sp = v := rfl
@[simp] theorem setSP_cpu_pc (s : State) (v : Word) : (s.setSP v).cpu.pc = s.cpu.pc := rfl
@[simp] theorem setSP_cpu_ime (s : State) (v : Word) : (s.setSP v).cpu.ime = s.cpu.ime := rfl
@[simp] theorem setSP_cpu_runState (s : State) (v : Word) : (s.setSP v).cpu.runState = s.cpu.runState := rfl
@[simp] theorem setSP_cpu_eiPending (s : State) (v : Word) : (s.setSP v).cpu.eiPending = s.cpu.eiPending := rfl
@[simp] theorem setSP_cpu_haltBugPending (s : State) (v : Word) : (s.setSP v).cpu.haltBugPending = s.cpu.haltBugPending := rfl
@[simp] theorem setSP_irq (s : State) (v : Word) : (s.setSP v).irq = s.irq := rfl
@[simp] theorem setSP_timer (s : State) (v : Word) : (s.setSP v).timer = s.timer := rfl
@[simp] theorem setSP_dma (s : State) (v : Word) : (s.setSP v).dma = s.dma := rfl
@[simp] theorem setSP_ppu (s : State) (v : Word) : (s.setSP v).ppu = s.ppu := rfl
@[simp] theorem setSP_sound (s : State) (v : Word) : (s.setSP v).sound = s.sound := rfl
@[simp] theorem setSP_p1Select (s : State) (v : Word) : (s.setSP v).p1Select = s.p1Select := rfl
@[simp] theorem setSP_sb (s : State) (v : Word) : (s.setSP v).sb = s.sb := rfl
@[simp] theorem setSP_sc (s : State) (v : Word) : (s.setSP v).sc = s.sc := rfl
@[simp] theorem setSP_buttons (s : State) (v : Word) : (s.setSP v).buttons = s.buttons := rfl
@[simp] theorem setSP_cart (s : State) (v : Word) : (s.setSP v).cart = s.cart := rfl
@[simp] theorem setSP_mem (s : State) (v : Word) : (s.setSP v).mem = s.mem := rfl
@[simp] theorem setSP_overlayActive (s : State) (v : Word) : (s.setSP v).overlayActive = s.overlayActive := rfl
@[simp] theorem setSP_fault (s : State) (v : Word) : (s.setSP v).fault = s.fault := rfl
@[simp] theorem setSP_params (s : State) (v : Word) : (s.setSP v).params = s.params := rfl
@[simp] theorem setSP_cycles (s : State) (v : Word) : (s.setSP v).cycles = s.cycles := rfl

/-! ## setPC -/

@[simp] theorem setPC_cpu_a (s : State) (v : Word) : (s.setPC v).cpu.a = s.cpu.a := rfl
@[simp] theorem setPC_cpu_f (s : State) (v : Word) : (s.setPC v).cpu.f = s.cpu.f := rfl
@[simp] theorem setPC_cpu_b (s : State) (v : Word) : (s.setPC v).cpu.b = s.cpu.b := rfl
@[simp] theorem setPC_cpu_c (s : State) (v : Word) : (s.setPC v).cpu.c = s.cpu.c := rfl
@[simp] theorem setPC_cpu_d (s : State) (v : Word) : (s.setPC v).cpu.d = s.cpu.d := rfl
@[simp] theorem setPC_cpu_e (s : State) (v : Word) : (s.setPC v).cpu.e = s.cpu.e := rfl
@[simp] theorem setPC_cpu_h (s : State) (v : Word) : (s.setPC v).cpu.h = s.cpu.h := rfl
@[simp] theorem setPC_cpu_l (s : State) (v : Word) : (s.setPC v).cpu.l = s.cpu.l := rfl
@[simp] theorem setPC_cpu_sp (s : State) (v : Word) : (s.setPC v).cpu.sp = s.cpu.sp := rfl
@[simp] theorem setPC_cpu_pc (s : State) (v : Word) : (s.setPC v).cpu.pc = v := rfl
@[simp] theorem setPC_cpu_ime (s : State) (v : Word) : (s.setPC v).cpu.ime = s.cpu.ime := rfl
@[simp] theorem setPC_cpu_runState (s : State) (v : Word) : (s.setPC v).cpu.runState = s.cpu.runState := rfl
@[simp] theorem setPC_cpu_eiPending (s : State) (v : Word) : (s.setPC v).cpu.eiPending = s.cpu.eiPending := rfl
@[simp] theorem setPC_cpu_haltBugPending (s : State) (v : Word) : (s.setPC v).cpu.haltBugPending = s.cpu.haltBugPending := rfl
@[simp] theorem setPC_irq (s : State) (v : Word) : (s.setPC v).irq = s.irq := rfl
@[simp] theorem setPC_timer (s : State) (v : Word) : (s.setPC v).timer = s.timer := rfl
@[simp] theorem setPC_dma (s : State) (v : Word) : (s.setPC v).dma = s.dma := rfl
@[simp] theorem setPC_ppu (s : State) (v : Word) : (s.setPC v).ppu = s.ppu := rfl
@[simp] theorem setPC_sound (s : State) (v : Word) : (s.setPC v).sound = s.sound := rfl
@[simp] theorem setPC_p1Select (s : State) (v : Word) : (s.setPC v).p1Select = s.p1Select := rfl
@[simp] theorem setPC_sb (s : State) (v : Word) : (s.setPC v).sb = s.sb := rfl
@[simp] theorem setPC_sc (s : State) (v : Word) : (s.setPC v).sc = s.sc := rfl
@[simp] theorem setPC_buttons (s : State) (v : Word) : (s.setPC v).buttons = s.buttons := rfl
@[simp] theorem setPC_cart (s : State) (v : Word) : (s.setPC v).cart = s.cart := rfl
@[simp] theorem setPC_mem (s : State) (v : Word) : (s.setPC v).mem = s.mem := rfl
@[simp] theorem setPC_overlayActive (s : State) (v : Word) : (s.setPC v).overlayActive = s.overlayActive := rfl
@[simp] theorem setPC_fault (s : State) (v : Word) : (s.setPC v).fault = s.fault := rfl
@[simp] theorem setPC_params (s : State) (v : Word) : (s.setPC v).params = s.params := rfl
@[simp] theorem setPC_cycles (s : State) (v : Word) : (s.setPC v).cycles = s.cycles := rfl

/-! ## setIME -/

@[simp] theorem setIME_cpu_a (s : State) (b : Bool) : (s.setIME b).cpu.a = s.cpu.a := rfl
@[simp] theorem setIME_cpu_f (s : State) (b : Bool) : (s.setIME b).cpu.f = s.cpu.f := rfl
@[simp] theorem setIME_cpu_b (s : State) (b : Bool) : (s.setIME b).cpu.b = s.cpu.b := rfl
@[simp] theorem setIME_cpu_c (s : State) (b : Bool) : (s.setIME b).cpu.c = s.cpu.c := rfl
@[simp] theorem setIME_cpu_d (s : State) (b : Bool) : (s.setIME b).cpu.d = s.cpu.d := rfl
@[simp] theorem setIME_cpu_e (s : State) (b : Bool) : (s.setIME b).cpu.e = s.cpu.e := rfl
@[simp] theorem setIME_cpu_h (s : State) (b : Bool) : (s.setIME b).cpu.h = s.cpu.h := rfl
@[simp] theorem setIME_cpu_l (s : State) (b : Bool) : (s.setIME b).cpu.l = s.cpu.l := rfl
@[simp] theorem setIME_cpu_sp (s : State) (b : Bool) : (s.setIME b).cpu.sp = s.cpu.sp := rfl
@[simp] theorem setIME_cpu_pc (s : State) (b : Bool) : (s.setIME b).cpu.pc = s.cpu.pc := rfl
@[simp] theorem setIME_cpu_ime (s : State) (b : Bool) : (s.setIME b).cpu.ime = b := rfl
@[simp] theorem setIME_cpu_runState (s : State) (b : Bool) : (s.setIME b).cpu.runState = s.cpu.runState := rfl
@[simp] theorem setIME_cpu_eiPending (s : State) (b : Bool) : (s.setIME b).cpu.eiPending = s.cpu.eiPending := rfl
@[simp] theorem setIME_cpu_haltBugPending (s : State) (b : Bool) : (s.setIME b).cpu.haltBugPending = s.cpu.haltBugPending := rfl
@[simp] theorem setIME_irq (s : State) (b : Bool) : (s.setIME b).irq = s.irq := rfl
@[simp] theorem setIME_timer (s : State) (b : Bool) : (s.setIME b).timer = s.timer := rfl
@[simp] theorem setIME_dma (s : State) (b : Bool) : (s.setIME b).dma = s.dma := rfl
@[simp] theorem setIME_ppu (s : State) (b : Bool) : (s.setIME b).ppu = s.ppu := rfl
@[simp] theorem setIME_sound (s : State) (b : Bool) : (s.setIME b).sound = s.sound := rfl
@[simp] theorem setIME_p1Select (s : State) (b : Bool) : (s.setIME b).p1Select = s.p1Select := rfl
@[simp] theorem setIME_sb (s : State) (b : Bool) : (s.setIME b).sb = s.sb := rfl
@[simp] theorem setIME_sc (s : State) (b : Bool) : (s.setIME b).sc = s.sc := rfl
@[simp] theorem setIME_buttons (s : State) (b : Bool) : (s.setIME b).buttons = s.buttons := rfl
@[simp] theorem setIME_cart (s : State) (b : Bool) : (s.setIME b).cart = s.cart := rfl
@[simp] theorem setIME_mem (s : State) (b : Bool) : (s.setIME b).mem = s.mem := rfl
@[simp] theorem setIME_overlayActive (s : State) (b : Bool) : (s.setIME b).overlayActive = s.overlayActive := rfl
@[simp] theorem setIME_fault (s : State) (b : Bool) : (s.setIME b).fault = s.fault := rfl
@[simp] theorem setIME_params (s : State) (b : Bool) : (s.setIME b).params = s.params := rfl
@[simp] theorem setIME_cycles (s : State) (b : Bool) : (s.setIME b).cycles = s.cycles := rfl

/-! ## setEiPending -/

@[simp] theorem setEiPending_cpu_a (s : State) (b : Bool) : (s.setEiPending b).cpu.a = s.cpu.a := rfl
@[simp] theorem setEiPending_cpu_f (s : State) (b : Bool) : (s.setEiPending b).cpu.f = s.cpu.f := rfl
@[simp] theorem setEiPending_cpu_b (s : State) (b : Bool) : (s.setEiPending b).cpu.b = s.cpu.b := rfl
@[simp] theorem setEiPending_cpu_c (s : State) (b : Bool) : (s.setEiPending b).cpu.c = s.cpu.c := rfl
@[simp] theorem setEiPending_cpu_d (s : State) (b : Bool) : (s.setEiPending b).cpu.d = s.cpu.d := rfl
@[simp] theorem setEiPending_cpu_e (s : State) (b : Bool) : (s.setEiPending b).cpu.e = s.cpu.e := rfl
@[simp] theorem setEiPending_cpu_h (s : State) (b : Bool) : (s.setEiPending b).cpu.h = s.cpu.h := rfl
@[simp] theorem setEiPending_cpu_l (s : State) (b : Bool) : (s.setEiPending b).cpu.l = s.cpu.l := rfl
@[simp] theorem setEiPending_cpu_sp (s : State) (b : Bool) : (s.setEiPending b).cpu.sp = s.cpu.sp := rfl
@[simp] theorem setEiPending_cpu_pc (s : State) (b : Bool) : (s.setEiPending b).cpu.pc = s.cpu.pc := rfl
@[simp] theorem setEiPending_cpu_ime (s : State) (b : Bool) : (s.setEiPending b).cpu.ime = s.cpu.ime := rfl
@[simp] theorem setEiPending_cpu_runState (s : State) (b : Bool) : (s.setEiPending b).cpu.runState = s.cpu.runState := rfl
@[simp] theorem setEiPending_cpu_eiPending (s : State) (b : Bool) : (s.setEiPending b).cpu.eiPending = b := rfl
@[simp] theorem setEiPending_cpu_haltBugPending (s : State) (b : Bool) : (s.setEiPending b).cpu.haltBugPending = s.cpu.haltBugPending := rfl
@[simp] theorem setEiPending_irq (s : State) (b : Bool) : (s.setEiPending b).irq = s.irq := rfl
@[simp] theorem setEiPending_timer (s : State) (b : Bool) : (s.setEiPending b).timer = s.timer := rfl
@[simp] theorem setEiPending_dma (s : State) (b : Bool) : (s.setEiPending b).dma = s.dma := rfl
@[simp] theorem setEiPending_ppu (s : State) (b : Bool) : (s.setEiPending b).ppu = s.ppu := rfl
@[simp] theorem setEiPending_sound (s : State) (b : Bool) : (s.setEiPending b).sound = s.sound := rfl
@[simp] theorem setEiPending_p1Select (s : State) (b : Bool) : (s.setEiPending b).p1Select = s.p1Select := rfl
@[simp] theorem setEiPending_sb (s : State) (b : Bool) : (s.setEiPending b).sb = s.sb := rfl
@[simp] theorem setEiPending_sc (s : State) (b : Bool) : (s.setEiPending b).sc = s.sc := rfl
@[simp] theorem setEiPending_buttons (s : State) (b : Bool) : (s.setEiPending b).buttons = s.buttons := rfl
@[simp] theorem setEiPending_cart (s : State) (b : Bool) : (s.setEiPending b).cart = s.cart := rfl
@[simp] theorem setEiPending_mem (s : State) (b : Bool) : (s.setEiPending b).mem = s.mem := rfl
@[simp] theorem setEiPending_overlayActive (s : State) (b : Bool) : (s.setEiPending b).overlayActive = s.overlayActive := rfl
@[simp] theorem setEiPending_fault (s : State) (b : Bool) : (s.setEiPending b).fault = s.fault := rfl
@[simp] theorem setEiPending_params (s : State) (b : Bool) : (s.setEiPending b).params = s.params := rfl
@[simp] theorem setEiPending_cycles (s : State) (b : Bool) : (s.setEiPending b).cycles = s.cycles := rfl

/-! ## setHaltBugPending -/

@[simp] theorem setHaltBugPending_cpu_a (s : State) (b : Bool) : (s.setHaltBugPending b).cpu.a = s.cpu.a := rfl
@[simp] theorem setHaltBugPending_cpu_f (s : State) (b : Bool) : (s.setHaltBugPending b).cpu.f = s.cpu.f := rfl
@[simp] theorem setHaltBugPending_cpu_b (s : State) (b : Bool) : (s.setHaltBugPending b).cpu.b = s.cpu.b := rfl
@[simp] theorem setHaltBugPending_cpu_c (s : State) (b : Bool) : (s.setHaltBugPending b).cpu.c = s.cpu.c := rfl
@[simp] theorem setHaltBugPending_cpu_d (s : State) (b : Bool) : (s.setHaltBugPending b).cpu.d = s.cpu.d := rfl
@[simp] theorem setHaltBugPending_cpu_e (s : State) (b : Bool) : (s.setHaltBugPending b).cpu.e = s.cpu.e := rfl
@[simp] theorem setHaltBugPending_cpu_h (s : State) (b : Bool) : (s.setHaltBugPending b).cpu.h = s.cpu.h := rfl
@[simp] theorem setHaltBugPending_cpu_l (s : State) (b : Bool) : (s.setHaltBugPending b).cpu.l = s.cpu.l := rfl
@[simp] theorem setHaltBugPending_cpu_sp (s : State) (b : Bool) : (s.setHaltBugPending b).cpu.sp = s.cpu.sp := rfl
@[simp] theorem setHaltBugPending_cpu_pc (s : State) (b : Bool) : (s.setHaltBugPending b).cpu.pc = s.cpu.pc := rfl
@[simp] theorem setHaltBugPending_cpu_ime (s : State) (b : Bool) : (s.setHaltBugPending b).cpu.ime = s.cpu.ime := rfl
@[simp] theorem setHaltBugPending_cpu_runState (s : State) (b : Bool) : (s.setHaltBugPending b).cpu.runState = s.cpu.runState := rfl
@[simp] theorem setHaltBugPending_cpu_eiPending (s : State) (b : Bool) : (s.setHaltBugPending b).cpu.eiPending = s.cpu.eiPending := rfl
@[simp] theorem setHaltBugPending_cpu_haltBugPending (s : State) (b : Bool) : (s.setHaltBugPending b).cpu.haltBugPending = b := rfl
@[simp] theorem setHaltBugPending_irq (s : State) (b : Bool) : (s.setHaltBugPending b).irq = s.irq := rfl
@[simp] theorem setHaltBugPending_timer (s : State) (b : Bool) : (s.setHaltBugPending b).timer = s.timer := rfl
@[simp] theorem setHaltBugPending_dma (s : State) (b : Bool) : (s.setHaltBugPending b).dma = s.dma := rfl
@[simp] theorem setHaltBugPending_ppu (s : State) (b : Bool) : (s.setHaltBugPending b).ppu = s.ppu := rfl
@[simp] theorem setHaltBugPending_sound (s : State) (b : Bool) : (s.setHaltBugPending b).sound = s.sound := rfl
@[simp] theorem setHaltBugPending_p1Select (s : State) (b : Bool) : (s.setHaltBugPending b).p1Select = s.p1Select := rfl
@[simp] theorem setHaltBugPending_sb (s : State) (b : Bool) : (s.setHaltBugPending b).sb = s.sb := rfl
@[simp] theorem setHaltBugPending_sc (s : State) (b : Bool) : (s.setHaltBugPending b).sc = s.sc := rfl
@[simp] theorem setHaltBugPending_buttons (s : State) (b : Bool) : (s.setHaltBugPending b).buttons = s.buttons := rfl
@[simp] theorem setHaltBugPending_cart (s : State) (b : Bool) : (s.setHaltBugPending b).cart = s.cart := rfl
@[simp] theorem setHaltBugPending_mem (s : State) (b : Bool) : (s.setHaltBugPending b).mem = s.mem := rfl
@[simp] theorem setHaltBugPending_overlayActive (s : State) (b : Bool) : (s.setHaltBugPending b).overlayActive = s.overlayActive := rfl
@[simp] theorem setHaltBugPending_fault (s : State) (b : Bool) : (s.setHaltBugPending b).fault = s.fault := rfl
@[simp] theorem setHaltBugPending_params (s : State) (b : Bool) : (s.setHaltBugPending b).params = s.params := rfl
@[simp] theorem setHaltBugPending_cycles (s : State) (b : Bool) : (s.setHaltBugPending b).cycles = s.cycles := rfl

/-! ## setRunState -/

@[simp] theorem setRunState_cpu_a (s : State) (r : RunState) : (s.setRunState r).cpu.a = s.cpu.a := rfl
@[simp] theorem setRunState_cpu_f (s : State) (r : RunState) : (s.setRunState r).cpu.f = s.cpu.f := rfl
@[simp] theorem setRunState_cpu_b (s : State) (r : RunState) : (s.setRunState r).cpu.b = s.cpu.b := rfl
@[simp] theorem setRunState_cpu_c (s : State) (r : RunState) : (s.setRunState r).cpu.c = s.cpu.c := rfl
@[simp] theorem setRunState_cpu_d (s : State) (r : RunState) : (s.setRunState r).cpu.d = s.cpu.d := rfl
@[simp] theorem setRunState_cpu_e (s : State) (r : RunState) : (s.setRunState r).cpu.e = s.cpu.e := rfl
@[simp] theorem setRunState_cpu_h (s : State) (r : RunState) : (s.setRunState r).cpu.h = s.cpu.h := rfl
@[simp] theorem setRunState_cpu_l (s : State) (r : RunState) : (s.setRunState r).cpu.l = s.cpu.l := rfl
@[simp] theorem setRunState_cpu_sp (s : State) (r : RunState) : (s.setRunState r).cpu.sp = s.cpu.sp := rfl
@[simp] theorem setRunState_cpu_pc (s : State) (r : RunState) : (s.setRunState r).cpu.pc = s.cpu.pc := rfl
@[simp] theorem setRunState_cpu_ime (s : State) (r : RunState) : (s.setRunState r).cpu.ime = s.cpu.ime := rfl
@[simp] theorem setRunState_cpu_runState (s : State) (r : RunState) : (s.setRunState r).cpu.runState = r := rfl
@[simp] theorem setRunState_cpu_eiPending (s : State) (r : RunState) : (s.setRunState r).cpu.eiPending = s.cpu.eiPending := rfl
@[simp] theorem setRunState_cpu_haltBugPending (s : State) (r : RunState) : (s.setRunState r).cpu.haltBugPending = s.cpu.haltBugPending := rfl
@[simp] theorem setRunState_irq (s : State) (r : RunState) : (s.setRunState r).irq = s.irq := rfl
@[simp] theorem setRunState_timer (s : State) (r : RunState) : (s.setRunState r).timer = s.timer := rfl
@[simp] theorem setRunState_dma (s : State) (r : RunState) : (s.setRunState r).dma = s.dma := rfl
@[simp] theorem setRunState_ppu (s : State) (r : RunState) : (s.setRunState r).ppu = s.ppu := rfl
@[simp] theorem setRunState_sound (s : State) (r : RunState) : (s.setRunState r).sound = s.sound := rfl
@[simp] theorem setRunState_p1Select (s : State) (r : RunState) : (s.setRunState r).p1Select = s.p1Select := rfl
@[simp] theorem setRunState_sb (s : State) (r : RunState) : (s.setRunState r).sb = s.sb := rfl
@[simp] theorem setRunState_sc (s : State) (r : RunState) : (s.setRunState r).sc = s.sc := rfl
@[simp] theorem setRunState_buttons (s : State) (r : RunState) : (s.setRunState r).buttons = s.buttons := rfl
@[simp] theorem setRunState_cart (s : State) (r : RunState) : (s.setRunState r).cart = s.cart := rfl
@[simp] theorem setRunState_mem (s : State) (r : RunState) : (s.setRunState r).mem = s.mem := rfl
@[simp] theorem setRunState_overlayActive (s : State) (r : RunState) : (s.setRunState r).overlayActive = s.overlayActive := rfl
@[simp] theorem setRunState_fault (s : State) (r : RunState) : (s.setRunState r).fault = s.fault := rfl
@[simp] theorem setRunState_params (s : State) (r : RunState) : (s.setRunState r).params = s.params := rfl
@[simp] theorem setRunState_cycles (s : State) (r : RunState) : (s.setRunState r).cycles = s.cycles := rfl

/-! ## retire -/

@[simp] theorem retire_cpu_a (s : State) (p : Word) (n : Nat) : (s.retire p n).cpu.a = s.cpu.a := rfl
@[simp] theorem retire_cpu_f (s : State) (p : Word) (n : Nat) : (s.retire p n).cpu.f = s.cpu.f := rfl
@[simp] theorem retire_cpu_b (s : State) (p : Word) (n : Nat) : (s.retire p n).cpu.b = s.cpu.b := rfl
@[simp] theorem retire_cpu_c (s : State) (p : Word) (n : Nat) : (s.retire p n).cpu.c = s.cpu.c := rfl
@[simp] theorem retire_cpu_d (s : State) (p : Word) (n : Nat) : (s.retire p n).cpu.d = s.cpu.d := rfl
@[simp] theorem retire_cpu_e (s : State) (p : Word) (n : Nat) : (s.retire p n).cpu.e = s.cpu.e := rfl
@[simp] theorem retire_cpu_h (s : State) (p : Word) (n : Nat) : (s.retire p n).cpu.h = s.cpu.h := rfl
@[simp] theorem retire_cpu_l (s : State) (p : Word) (n : Nat) : (s.retire p n).cpu.l = s.cpu.l := rfl
@[simp] theorem retire_cpu_sp (s : State) (p : Word) (n : Nat) : (s.retire p n).cpu.sp = s.cpu.sp := rfl
@[simp] theorem retire_cpu_pc (s : State) (p : Word) (n : Nat) : (s.retire p n).cpu.pc = p := rfl
@[simp] theorem retire_cpu_ime (s : State) (p : Word) (n : Nat) : (s.retire p n).cpu.ime = s.cpu.ime := rfl
@[simp] theorem retire_cpu_runState (s : State) (p : Word) (n : Nat) : (s.retire p n).cpu.runState = s.cpu.runState := rfl
@[simp] theorem retire_cpu_eiPending (s : State) (p : Word) (n : Nat) : (s.retire p n).cpu.eiPending = s.cpu.eiPending := rfl
@[simp] theorem retire_cpu_haltBugPending (s : State) (p : Word) (n : Nat) : (s.retire p n).cpu.haltBugPending = false := rfl
@[simp] theorem retire_irq (s : State) (p : Word) (n : Nat) : (s.retire p n).irq = s.irq := rfl
@[simp] theorem retire_timer (s : State) (p : Word) (n : Nat) : (s.retire p n).timer = s.timer := rfl
@[simp] theorem retire_dma (s : State) (p : Word) (n : Nat) : (s.retire p n).dma = s.dma := rfl
@[simp] theorem retire_ppu (s : State) (p : Word) (n : Nat) : (s.retire p n).ppu = s.ppu := rfl
@[simp] theorem retire_sound (s : State) (p : Word) (n : Nat) : (s.retire p n).sound = s.sound := rfl
@[simp] theorem retire_p1Select (s : State) (p : Word) (n : Nat) : (s.retire p n).p1Select = s.p1Select := rfl
@[simp] theorem retire_sb (s : State) (p : Word) (n : Nat) : (s.retire p n).sb = s.sb := rfl
@[simp] theorem retire_sc (s : State) (p : Word) (n : Nat) : (s.retire p n).sc = s.sc := rfl
@[simp] theorem retire_buttons (s : State) (p : Word) (n : Nat) : (s.retire p n).buttons = s.buttons := rfl
@[simp] theorem retire_cart (s : State) (p : Word) (n : Nat) : (s.retire p n).cart = s.cart := rfl
@[simp] theorem retire_mem (s : State) (p : Word) (n : Nat) : (s.retire p n).mem = s.mem := rfl
@[simp] theorem retire_overlayActive (s : State) (p : Word) (n : Nat) : (s.retire p n).overlayActive = s.overlayActive := rfl
@[simp] theorem retire_fault (s : State) (p : Word) (n : Nat) : (s.retire p n).fault = s.fault := rfl
@[simp] theorem retire_params (s : State) (p : Word) (n : Nat) : (s.retire p n).params = s.params := rfl
@[simp] theorem retire_cycles (s : State) (p : Word) (n : Nat) : (s.retire p n).cycles = n := rfl

/-! ## raiseIF -/

@[simp] theorem raiseIF_cpu (s : State) (i : Nat) : (s.raiseIF i).cpu = s.cpu := rfl
@[simp] theorem raiseIF_irq (s : State) (i : Nat) : (s.raiseIF i).irq = { s.irq with req := s.irq.req ||| ((1 : Byte) <<< i) } := rfl
@[simp] theorem raiseIF_timer (s : State) (i : Nat) : (s.raiseIF i).timer = s.timer := rfl
@[simp] theorem raiseIF_dma (s : State) (i : Nat) : (s.raiseIF i).dma = s.dma := rfl
@[simp] theorem raiseIF_ppu (s : State) (i : Nat) : (s.raiseIF i).ppu = s.ppu := rfl
@[simp] theorem raiseIF_sound (s : State) (i : Nat) : (s.raiseIF i).sound = s.sound := rfl
@[simp] theorem raiseIF_p1Select (s : State) (i : Nat) : (s.raiseIF i).p1Select = s.p1Select := rfl
@[simp] theorem raiseIF_sb (s : State) (i : Nat) : (s.raiseIF i).sb = s.sb := rfl
@[simp] theorem raiseIF_sc (s : State) (i : Nat) : (s.raiseIF i).sc = s.sc := rfl
@[simp] theorem raiseIF_buttons (s : State) (i : Nat) : (s.raiseIF i).buttons = s.buttons := rfl
@[simp] theorem raiseIF_cart (s : State) (i : Nat) : (s.raiseIF i).cart = s.cart := rfl
@[simp] theorem raiseIF_mem (s : State) (i : Nat) : (s.raiseIF i).mem = s.mem := rfl
@[simp] theorem raiseIF_overlayActive (s : State) (i : Nat) : (s.raiseIF i).overlayActive = s.overlayActive := rfl
@[simp] theorem raiseIF_fault (s : State) (i : Nat) : (s.raiseIF i).fault = s.fault := rfl
@[simp] theorem raiseIF_params (s : State) (i : Nat) : (s.raiseIF i).params = s.params := rfl
@[simp] theorem raiseIF_cycles (s : State) (i : Nat) : (s.raiseIF i).cycles = s.cycles := rfl

/-! ## clearIF -/

@[simp] theorem clearIF_cpu (s : State) (i : Nat) : (s.clearIF i).cpu = s.cpu := rfl
@[simp] theorem clearIF_irq (s : State) (i : Nat) : (s.clearIF i).irq = { s.irq with req := s.irq.req &&& ~~~((1 : Byte) <<< i) } := rfl
@[simp] theorem clearIF_timer (s : State) (i : Nat) : (s.clearIF i).timer = s.timer := rfl
@[simp] theorem clearIF_dma (s : State) (i : Nat) : (s.clearIF i).dma = s.dma := rfl
@[simp] theorem clearIF_ppu (s : State) (i : Nat) : (s.clearIF i).ppu = s.ppu := rfl
@[simp] theorem clearIF_sound (s : State) (i : Nat) : (s.clearIF i).sound = s.sound := rfl
@[simp] theorem clearIF_p1Select (s : State) (i : Nat) : (s.clearIF i).p1Select = s.p1Select := rfl
@[simp] theorem clearIF_sb (s : State) (i : Nat) : (s.clearIF i).sb = s.sb := rfl
@[simp] theorem clearIF_sc (s : State) (i : Nat) : (s.clearIF i).sc = s.sc := rfl
@[simp] theorem clearIF_buttons (s : State) (i : Nat) : (s.clearIF i).buttons = s.buttons := rfl
@[simp] theorem clearIF_cart (s : State) (i : Nat) : (s.clearIF i).cart = s.cart := rfl
@[simp] theorem clearIF_mem (s : State) (i : Nat) : (s.clearIF i).mem = s.mem := rfl
@[simp] theorem clearIF_overlayActive (s : State) (i : Nat) : (s.clearIF i).overlayActive = s.overlayActive := rfl
@[simp] theorem clearIF_fault (s : State) (i : Nat) : (s.clearIF i).fault = s.fault := rfl
@[simp] theorem clearIF_params (s : State) (i : Nat) : (s.clearIF i).params = s.params := rfl
@[simp] theorem clearIF_cycles (s : State) (i : Nat) : (s.clearIF i).cycles = s.cycles := rfl

/-! ## writeKey -/

@[simp] theorem writeKey_cpu (s : State) (k : Nat) (v : Byte) : (s.writeKey k v).cpu = s.cpu := rfl
@[simp] theorem writeKey_irq (s : State) (k : Nat) (v : Byte) : (s.writeKey k v).irq = s.irq := rfl
@[simp] theorem writeKey_timer (s : State) (k : Nat) (v : Byte) : (s.writeKey k v).timer = s.timer := rfl
@[simp] theorem writeKey_dma (s : State) (k : Nat) (v : Byte) : (s.writeKey k v).dma = s.dma := rfl
@[simp] theorem writeKey_ppu (s : State) (k : Nat) (v : Byte) : (s.writeKey k v).ppu = s.ppu := rfl
@[simp] theorem writeKey_sound (s : State) (k : Nat) (v : Byte) : (s.writeKey k v).sound = s.sound := rfl
@[simp] theorem writeKey_p1Select (s : State) (k : Nat) (v : Byte) : (s.writeKey k v).p1Select = s.p1Select := rfl
@[simp] theorem writeKey_sb (s : State) (k : Nat) (v : Byte) : (s.writeKey k v).sb = s.sb := rfl
@[simp] theorem writeKey_sc (s : State) (k : Nat) (v : Byte) : (s.writeKey k v).sc = s.sc := rfl
@[simp] theorem writeKey_buttons (s : State) (k : Nat) (v : Byte) : (s.writeKey k v).buttons = s.buttons := rfl
@[simp] theorem writeKey_cart (s : State) (k : Nat) (v : Byte) : (s.writeKey k v).cart = s.cart := rfl
@[simp] theorem writeKey_mem (s : State) (k : Nat) (v : Byte) : (s.writeKey k v).mem = Memory.write s.mem k v := rfl
@[simp] theorem writeKey_overlayActive (s : State) (k : Nat) (v : Byte) : (s.writeKey k v).overlayActive = s.overlayActive := rfl
@[simp] theorem writeKey_fault (s : State) (k : Nat) (v : Byte) : (s.writeKey k v).fault = s.fault := rfl
@[simp] theorem writeKey_params (s : State) (k : Nat) (v : Byte) : (s.writeKey k v).params = s.params := rfl
@[simp] theorem writeKey_cycles (s : State) (k : Nat) (v : Byte) : (s.writeKey k v).cycles = s.cycles := rfl

/-! ## setMode -/

@[simp] theorem setMode_cpu (s : State) (m : PpuMode) : (s.setMode m).cpu = s.cpu := rfl
@[simp] theorem setMode_irq (s : State) (m : PpuMode) : (s.setMode m).irq = s.irq := rfl
@[simp] theorem setMode_timer (s : State) (m : PpuMode) : (s.setMode m).timer = s.timer := rfl
@[simp] theorem setMode_dma (s : State) (m : PpuMode) : (s.setMode m).dma = s.dma := rfl
@[simp] theorem setMode_ppu (s : State) (m : PpuMode) : (s.setMode m).ppu = { s.ppu with mode := m } := rfl
@[simp] theorem setMode_sound (s : State) (m : PpuMode) : (s.setMode m).sound = s.sound := rfl
@[simp] theorem setMode_p1Select (s : State) (m : PpuMode) : (s.setMode m).p1Select = s.p1Select := rfl
@[simp] theorem setMode_sb (s : State) (m : PpuMode) : (s.setMode m).sb = s.sb := rfl
@[simp] theorem setMode_sc (s : State) (m : PpuMode) : (s.setMode m).sc = s.sc := rfl
@[simp] theorem setMode_buttons (s : State) (m : PpuMode) : (s.setMode m).buttons = s.buttons := rfl
@[simp] theorem setMode_cart (s : State) (m : PpuMode) : (s.setMode m).cart = s.cart := rfl
@[simp] theorem setMode_mem (s : State) (m : PpuMode) : (s.setMode m).mem = s.mem := rfl
@[simp] theorem setMode_overlayActive (s : State) (m : PpuMode) : (s.setMode m).overlayActive = s.overlayActive := rfl
@[simp] theorem setMode_fault (s : State) (m : PpuMode) : (s.setMode m).fault = s.fault := rfl
@[simp] theorem setMode_params (s : State) (m : PpuMode) : (s.setMode m).params = s.params := rfl
@[simp] theorem setMode_cycles (s : State) (m : PpuMode) : (s.setMode m).cycles = s.cycles := rfl

end Sys2Proof.Machine
end

