-- ==== Sys2Proof/Laws/Ops.lean ====
section
/-! SUPPORT. The shared operations over registers, flags and the stack: one lemma for what each does, which
later proofs cite in place of its definition. -/

namespace Sys2Proof.Machine

/-! ## Bytes and words (R11) -/

/-- `{hi, lo}` is `hi * 256 + lo`. -/
theorem toNat_mkWord (hi lo : Byte) : (mkWord hi lo).toNat = hi.toNat * 256 + lo.toNat := by
  simp only [mkWord, BitVec.toNat_append]
  rw [← Nat.shiftLeft_add_eq_or_of_lt lo.isLt, Nat.shiftLeft_eq]

theorem toNat_hiByte (w : Word) : (hiByte w).toNat = w.toNat / 256 := by
  have := w.isLt
  simp [hiByte, Nat.shiftRight_eq_div_pow]; omega

theorem toNat_loByte (w : Word) : (loByte w).toNat = w.toNat % 256 := by simp [loByte]

@[simp] theorem hiByte_mkWord (hi lo : Byte) : hiByte (mkWord hi lo) = hi := by
  apply BitVec.eq_of_toNat_eq
  have := lo.isLt
  rw [toNat_hiByte, toNat_mkWord]; omega

@[simp] theorem loByte_mkWord (hi lo : Byte) : loByte (mkWord hi lo) = lo := by
  apply BitVec.eq_of_toNat_eq
  have := lo.isLt
  rw [toNat_loByte, toNat_mkWord]; omega

@[simp] theorem mkWord_bytes (w : Word) : mkWord (hiByte w) (loByte w) = w := by
  apply BitVec.eq_of_toNat_eq
  rw [toNat_mkWord, toNat_hiByte, toNat_loByte]
  omega

/-! ## Flags (R24, R25) -/

theorem toByte_and_low (f : Flags) : f.toByte &&& 0x0F = 0 := by
  obtain ⟨z, n, h, c⟩ := f
  cases z <;> cases n <;> cases h <;> cases c <;> rfl

theorem toByte_and_high (f : Flags) : f.toByte &&& 0xF0 = f.toByte := by
  obtain ⟨z, n, h, c⟩ := f
  cases z <;> cases n <;> cases h <;> cases c <;> rfl

theorem ofByte_toByte (f : Flags) : Flags.ofByte f.toByte = f := by
  obtain ⟨z, n, h, c⟩ := f
  cases z <;> cases n <;> cases h <;> cases c <;> rfl

/-- The flags read back after a write of them. -/
@[simp] theorem flags_setFlags (s : State) (f : Flags) : (s.setFlags f).flags = f := by
  rw [State.flags, setFlags_cpu_f, toByte_and_high, ofByte_toByte]

/-- Every write to F leaves its low nibble zero (R25). -/
theorem setF_clean (s : State) (v : Byte) : (s.setF v).cpu.f &&& 0x0F = 0 := by
  show (v &&& 0xF0) &&& 0x0F = 0
  rw [BitVec.and_assoc]; exact BitVec.and_zero

/-! ## The PC -/

theorem pcNext_plain {s : State} (h : s.cpu.haltBugPending = false) (len : Nat) :
    s.pcNext len = s.cpu.pc + BitVec.ofNat 16 len := by simp [State.pcNext, h]

theorem pcNext_replay {s : State} (h : s.cpu.haltBugPending = true) (len : Nat) :
    s.pcNext len = s.cpu.pc + BitVec.ofNat 16 len - 1 := by simp [State.pcNext, h]

theorem fetchAddr_zero (s : State) : s.fetchAddr 0 = s.cpu.pc := by simp [State.fetchAddr]

theorem fetchAddr_plain {s : State} (h : s.cpu.haltBugPending = false) (k : Nat) :
    s.fetchAddr k = s.cpu.pc + BitVec.ofNat 16 k := by simp [State.fetchAddr, h]

theorem fetchAddr_replay {s : State} (h : s.cpu.haltBugPending = true) (k : Nat) :
    s.fetchAddr (k + 1) = s.cpu.pc + BitVec.ofNat 16 k := by
  simp only [State.fetchAddr, h, Nat.zero_lt_succ, and_self, if_true]
  apply BitVec.eq_of_toNat_eq
  simp [BitVec.toNat_sub, BitVec.toNat_add]
  omega

/-! ## Bus writes and the CPU -/

/-- A bus write with the CPU alone replaced before it. -/
theorem busWrite_setCpu (a : Word) (v : Byte) (s : State) (c : Cpu) :
    busWrite a v { s with cpu := c } = { busWrite a v s with cpu := c } := by
  have h := busWrite_withCpu a v s c s.cycles
  have hc := busWrite_cycles a v s
  calc busWrite a v { s with cpu := c } = _ := h
    _ = _ := by rw [← hc]

theorem busRead_setCpu (a : Word) (s : State) (c : Cpu) :
    busRead a { s with cpu := c } = busRead a s := busRead_withCpu a s c s.cycles

theorem storeKey_setCpu (a : Word) (s : State) (c : Cpu) :
    storeKey a { s with cpu := c } = storeKey a s := storeKey_withCpu a s c s.cycles

/-- A read's key does not depend on the CPU. -/
@[simp] theorem loadKey_withCpu (a : Word) (s : State) (c : Cpu) (n : Nat) :
    loadKey a { s with cpu := c, cycles := n } = loadKey a s := by
  unfold loadKey State.overlayHit
  rw [storeKey_withCpu]

/-! ## The stack (R200, R201) -/

/-- What a push does: two bus writes, the high byte's first, and SP moved down by two. -/
theorem push16_eq (v : Word) (s : State) :
    push16 v s =
      { busWrite (s.cpu.sp - 2) (loByte v) (busWrite (s.cpu.sp - 1) (hiByte v) s) with
        cpu := { s.cpu with sp := s.cpu.sp - 2 } } := by
  have h2 : s.cpu.sp - 1 - 1 = s.cpu.sp - 2 := by
    rw [BitVec.sub_sub]; rfl
  simp only [push16, State.setSP, busWrite_setCpu, h2]

/-- Storage addresses stay storage, with the same key, when a byte of storage is written. -/
theorem storeKey_writeKey (a : Word) (s : State) (k : Nat) (v : Byte) :
    storeKey a (s.writeKey k v) = storeKey a s := by
  unfold storeKey
  cases ownerOf a <;> rfl

/-- The bytes a push stores where the stack lies in storage, under two keys. -/
theorem readKey_push16 {v : Word} {s : State} {k l : Nat} (hk : storeKey (s.cpu.sp - 1) s = some k)
    (hl : storeKey (s.cpu.sp - 2) s = some l) (j : Nat) :
    (push16 v s).readKey j = if j = l then loByte v else if j = k then hiByte v else s.readKey j := by
  have hw : busWrite (s.cpu.sp - 1) (hiByte v) s = s.writeKey k (hiByte v) := by
    rcases busWrite_cases (s.cpu.sp - 1) (hiByte v) s with
      ⟨_, h⟩ | ⟨k', h, e⟩ | ⟨_, h, _⟩ | ⟨_, _, h, _⟩ | ⟨_, h, _⟩ <;> rw [hk] at h
    · cases h
    · cases h; exact e
    · cases h
    · cases h
    · cases h
  have hl' : storeKey (s.cpu.sp - 2) (s.writeKey k (hiByte v)) = some l := by
    rw [storeKey_writeKey, hl]
  rw [push16_eq]
  show (busWrite (s.cpu.sp - 2) (loByte v) (busWrite (s.cpu.sp - 1) (hiByte v) s)).readKey j = _
  rw [readKey_busWrite, readKey_busWrite, hw, hl', hk]
  simp only [Option.some.injEq, eq_comm]

end Sys2Proof.Machine
end

