-- ==== Sys2Proof/Laws/Exec.lean ====
section
/-! SUPPORT. What an instruction can do, said once for every form: a few bus writes, and changes to the CPU
that the form names. A proof about every instruction cites `exec_effect`. -/

namespace Sys2Proof.Machine

/-- `t` is `s` after some bus writes. -/
inductive Writes : State → State → Prop where
  | none (s : State) : Writes s s
  | write (a : Word) (v : Byte) (s t : State) (next : Writes (busWrite a v s) t) : Writes s t

/-- What every bus write keeps, bus writes keep. -/
theorem Writes.induct {P : State → Prop} (h : ∀ a v s, P s → P (busWrite a v s)) {s t : State}
    (hw : Writes s t) (hs : P s) : P t := by
  induction hw with
  | none s => exact hs
  | write a v s t _ ih => exact ih (h a v s hs)

/-- What a form does to the CPU's control state and to F. -/
structure CpuEffect (f : Form) (s t : State) : Prop where
  flags : t.cpu.f = s.cpu.f ∨ t.cpu.f &&& 0x0F = 0
  ime : t.cpu.ime = s.cpu.ime ∨ (f = .disableInterrupts ∧ t.cpu.ime = false) ∨
    ((f = .enableInterrupts ∨ f = .retI) ∧ t.cpu.ime = true)
  eiPending : t.cpu.eiPending = s.cpu.eiPending ∨ (f = .disableInterrupts ∧ t.cpu.eiPending = false) ∨
    (f = .enableInterrupts ∧ s.params.eiDelay = true ∧ t.cpu.eiPending = true)
  notDi : f = .disableInterrupts → t.cpu.ime = false ∧ t.cpu.eiPending = false
  haltBug : t.cpu.haltBugPending = false ∨ (f = .halt ∧ s.params.haltBugMode = .replay)
  runState : t.cpu.runState = s.cpu.runState ∨ (f = .halt ∧ t.cpu.runState = .halted)

/-- Everything a completed form does: bus writes, then a new CPU and a cost. -/
def Effect (f : Form) (s t : State) : Prop :=
  ∃ u, Writes s u ∧ t = { u with cpu := t.cpu, cycles := t.cycles } ∧ CpuEffect f s t

/-! ## The steps of a form -/

theorem set8_eq (r : R8) (v : Byte) (s : State) :
    ∃ u, Writes s u ∧ set8 r v s = { u with cpu := (set8 r v s).cpu } := by
  cases r
  case mHL => exact ⟨busWrite s.hl v s, .write _ _ _ _ (.none _), rfl⟩
  all_goals exact ⟨s, .none s, rfl⟩

/-- The control state after a register or memory operand is written. -/
theorem set8_control (r : R8) (v : Byte) (s : State) :
    (set8 r v s).cpu.f = s.cpu.f ∧ (set8 r v s).cpu.ime = s.cpu.ime ∧
      (set8 r v s).cpu.eiPending = s.cpu.eiPending ∧ (set8 r v s).cpu.runState = s.cpu.runState ∧
      (set8 r v s).cpu.pc = s.cpu.pc ∧ (set8 r v s).cpu.haltBugPending = s.cpu.haltBugPending := by
  cases r <;> simp [set8]

theorem push16_eq_writes (v : Word) (s : State) :
    ∃ u, Writes s u ∧ push16 v s = { u with cpu := { s.cpu with sp := s.cpu.sp - 2 } } :=
  ⟨_, .write _ _ _ _ (.write _ _ _ _ (.none _)), push16_eq v s⟩

/-- A form whose state is `u`, reached by bus writes, with another CPU that keeps the control state. -/
theorem effect_of {f : Form} {s u t : State} (hw : Writes s u) (ht : t = { u with cpu := t.cpu, cycles := t.cycles })
    (hf : t.cpu.f = s.cpu.f ∨ t.cpu.f &&& 0x0F = 0) (hi : t.cpu.ime = s.cpu.ime)
    (he : t.cpu.eiPending = s.cpu.eiPending) (hh : t.cpu.haltBugPending = false)
    (hr : t.cpu.runState = s.cpu.runState) (hd : f ≠ .disableInterrupts) : Effect f s t :=
  ⟨u, hw, ht, hf, .inl hi, .inl he, fun h => absurd h hd, .inl hh, .inl hr⟩

/-- The same where the CPU alone changes. -/
theorem effect_cpu {f : Form} {s t : State} (ht : t = { s with cpu := t.cpu, cycles := t.cycles })
    (hf : t.cpu.f = s.cpu.f ∨ t.cpu.f &&& 0x0F = 0) (hi : t.cpu.ime = s.cpu.ime)
    (he : t.cpu.eiPending = s.cpu.eiPending) (hh : t.cpu.haltBugPending = false)
    (hr : t.cpu.runState = s.cpu.runState) (hd : f ≠ .disableInterrupts) : Effect f s t :=
  effect_of (.none s) ht hf hi he hh hr hd

theorem flags_clean (f : Flags) : (f.toByte &&& 0xF0) &&& 0x0F = 0 := by
  rw [toByte_and_high, toByte_and_low]

theorem memPost_eq (m : R16Mem) (s : State) : memPost m s = { s with cpu := (memPost m s).cpu } := by
  cases m <;> rfl

theorem memPost_control (m : R16Mem) (s : State) :
    (memPost m s).cpu.f = s.cpu.f ∧ (memPost m s).cpu.ime = s.cpu.ime ∧
      (memPost m s).cpu.eiPending = s.cpu.eiPending ∧ (memPost m s).cpu.runState = s.cpu.runState := by
  cases m <;> exact ⟨rfl, rfl, rfl, rfl⟩

/-- A form that writes one `r8` operand, and perhaps the flags, and goes on. -/
theorem effect_set8 {f : Form} {s : State} (r : R8) (v : Byte) (g : Option Flags) (pc : Word) (n : Nat)
    (hd : f ≠ .disableInterrupts) :
    Effect f s ((match g with
      | some g => (set8 r v s).setFlags g
      | none => set8 r v s).retire pc n) := by
  obtain ⟨u, hw, hu⟩ := set8_eq r v s
  obtain ⟨h1, h2, h3, h4, _, _⟩ := set8_control r v s
  cases g with
  | some g =>
    refine effect_of hw ?_ (.inr (flags_clean g)) h2 h3 rfl h4 hd
    show State.retire _ _ _ = _
    rw [hu]; rfl
  | none =>
    refine effect_of hw ?_ (.inl h1) h2 h3 rfl h4 hd
    show State.retire _ _ _ = _
    rw [hu]; rfl

/-- A form that pushes a word and jumps. -/
theorem effect_push {f : Form} {s : State} (v : Word) (pc : Word) (n : Nat)
    (hd : f ≠ .disableInterrupts) : Effect f s ((push16 v s).retire pc n) := by
  obtain ⟨u, hw, hu⟩ := push16_eq_writes v s
  rw [hu]
  exact effect_of hw rfl (.inl rfl) rfl rfl rfl rfl hd

/-- A form that ends where the PC says and changes nothing else. -/
theorem effect_retire {f : Form} {s : State} (pc : Word) (n : Nat) (hd : f ≠ .disableInterrupts) :
    Effect f s (s.retire pc n) := effect_cpu rfl (.inl rfl) rfl rfl rfl rfl hd

/-- The four operations of the CB table. -/
theorem effect_cbTable {f : Form} (op2 : Byte) (s : State) (hd : f ≠ .disableInterrupts) :
    Effect f s (cbTable op2 s) := by
  unfold cbTable
  split
  · exact effect_set8 _ _ (some _) _ _ hd
  · exact effect_cpu rfl (.inr (flags_clean _)) rfl rfl rfl rfl hd
  · exact effect_set8 _ _ none _ _ hd
  · exact effect_set8 _ _ none _ _ hd

/-! ## Every form -/

/-- What a completed form does. -/
theorem form_effect {f : Form} {s t : State} (h : f.run s = .next t) : Effect f s t := by
  cases f <;> simp only [Form.run, stopFault, illegalByte, Host.Outcome.next.injEq, reduceCtorEq] at h <;>
    subst h
  case loadR8 d r => exact effect_set8 d _ none _ _ (by simp)
  case loadN8 d n => exact effect_set8 d _ none _ _ (by simp)
  case loadMem m =>
    obtain ⟨h1, h2, h3, h4⟩ := memPost_control m (s.setA (busRead (memAddr m s) s))
    refine effect_cpu ?_ (.inl h1) h2 h3 rfl h4 (by simp)
    show State.retire _ _ _ = _
    rw [memPost_eq]; rfl
  case storeMem m =>
    obtain ⟨h1, h2, h3, h4⟩ := memPost_control m (busWrite (memAddr m s) s.cpu.a s)
    rw [busWrite_cpu] at h1 h2 h3 h4
    refine effect_of (.write (memAddr m s) s.cpu.a s _ (.none _)) ?_ (.inl h1) h2 h3 rfl h4 (by simp)
    show State.retire _ _ _ = _
    rw [memPost_eq]; rfl
  case loadN16 rr n => cases rr <;> exact effect_cpu rfl (.inl rfl) rfl rfl rfl rfl (by simp)
  case storeSP a =>
    refine effect_of (.write a (loByte s.cpu.sp) s _ (.write (a + 1) (hiByte s.cpu.sp) _ _ (.none _)))
      rfl ?_ ?_ ?_ rfl ?_ (by simp) <;> simp [storeSP, busWrite16, State.advance]
  case loadSPHL => exact effect_cpu rfl (.inl rfl) rfl rfl rfl rfl (by simp)
  case push p => exact effect_push _ _ _ (by simp)
  case pop p =>
    cases p
    case AF => exact effect_cpu rfl (.inr (setF_clean s _)) rfl rfl rfl rfl (by simp)
    all_goals exact effect_cpu rfl (.inl rfl) rfl rfl rfl rfl (by simp)
  case loadHLSP e => exact effect_cpu rfl (.inr (flags_clean _)) rfl rfl rfl rfl (by simp)
  case aluR8 o r => exact effect_cpu rfl (.inr (flags_clean _)) rfl rfl rfl rfl (by simp)
  case aluN8 o n => exact effect_cpu rfl (.inr (flags_clean _)) rfl rfl rfl rfl (by simp)
  case incR8 r => exact effect_set8 r _ (some _) _ _ (by simp)
  case decR8 r => exact effect_set8 r _ (some _) _ _ (by simp)
  case decimalAdjust => exact effect_cpu rfl (.inr (flags_clean _)) rfl rfl rfl rfl (by simp)
  case complementA => exact effect_cpu rfl (.inr (flags_clean _)) rfl rfl rfl rfl (by simp)
  case setCarry => exact effect_cpu rfl (.inr (flags_clean _)) rfl rfl rfl rfl (by simp)
  case complementCarry => exact effect_cpu rfl (.inr (flags_clean _)) rfl rfl rfl rfl (by simp)
  case addHL rr => exact effect_cpu rfl (.inr (flags_clean _)) rfl rfl rfl rfl (by simp)
  case incR16 rr => cases rr <;> exact effect_cpu rfl (.inl rfl) rfl rfl rfl rfl (by simp)
  case decR16 rr => cases rr <;> exact effect_cpu rfl (.inl rfl) rfl rfl rfl rfl (by simp)
  case addSP e => exact effect_cpu rfl (.inr (flags_clean _)) rfl rfl rfl rfl (by simp)
  case rotateA o => exact effect_cpu rfl (.inr (flags_clean _)) rfl rfl rfl rfl (by simp)
  case rotateR8 o r => exact effect_set8 r _ (some _) _ _ (by simp)
  case testBitR8 u r => exact effect_cpu rfl (.inr (flags_clean _)) rfl rfl rfl rfl (by simp)
  case resetBitR8 u r => exact effect_set8 r _ none _ _ (by simp)
  case setBitR8 u r => exact effect_set8 r _ none _ _ (by simp)
  case jump a => exact effect_retire _ _ (by simp)
  case jumpIf c a => unfold jumpIf; split <;> exact effect_retire _ _ (by simp)
  case jumpHL => exact effect_retire _ _ (by simp)
  case jumpRel e => exact effect_retire _ _ (by simp)
  case jumpRelIf c e => unfold jumpRelIf; split <;> exact effect_retire _ _ (by simp)
  case call a => exact effect_push _ _ _ (by simp)
  case callIf c a =>
    unfold callIf; split
    · exact effect_push _ _ _ (by simp)
    · exact effect_retire _ _ (by simp)
  case ret => exact effect_cpu rfl (.inl rfl) rfl rfl rfl rfl (by simp)
  case retIf c =>
    unfold retIf; split
    · exact effect_cpu rfl (.inl rfl) rfl rfl rfl rfl (by simp)
    · exact effect_retire _ _ (by simp)
  case retI =>
    exact ⟨s, .none s, rfl, .inl rfl, .inr (.inr ⟨.inr rfl, rfl⟩), .inl rfl, by simp, .inl rfl, .inl rfl⟩
  case restart t => exact effect_push _ _ _ (by simp)
  case nop => exact effect_retire _ _ (by simp)
  case halt =>
    unfold halt
    split
    · unfold haltBug
      split
      · exact effect_retire _ _ (by simp)
      · rename_i hm
        exact ⟨s, .none s, rfl, .inl rfl, .inl rfl, .inl rfl, by simp, .inr ⟨rfl, hm⟩, .inl rfl⟩
      · exact ⟨s, .none s, rfl, .inl rfl, .inl rfl, .inl rfl, by simp, .inl rfl, .inr ⟨rfl, rfl⟩⟩
    · exact ⟨s, .none s, rfl, .inl rfl, .inl rfl, .inl rfl, by simp, .inl rfl, .inr ⟨rfl, rfl⟩⟩
  case disableInterrupts =>
    exact ⟨s, .none s, rfl, .inl rfl, .inr (.inl ⟨rfl, rfl⟩), .inr (.inl ⟨rfl, rfl⟩),
      fun _ => ⟨rfl, rfl⟩, .inl rfl, .inl rfl⟩
  case enableInterrupts =>
    unfold enableInterrupts
    split
    · rename_i hd
      exact ⟨s, .none s, rfl, .inl rfl, .inl rfl, .inr (.inr ⟨rfl, hd, rfl⟩), by simp, .inl rfl, .inl rfl⟩
    · exact ⟨s, .none s, rfl, .inl rfl, .inr (.inr ⟨.inl rfl, rfl⟩), .inl rfl, by simp, .inl rfl, .inl rfl⟩
  case prefixCB => exact effect_cbTable _ _ (by simp)
  case loadHigh n => exact effect_cpu rfl (.inl rfl) rfl rfl rfl rfl (by simp)
  case storeHigh n =>
    refine effect_of (.write _ s.cpu.a s _ (.none _)) rfl ?_ ?_ ?_ rfl ?_ (by simp) <;>
      simp [storeA, State.advance]
  case loadHighC => exact effect_cpu rfl (.inl rfl) rfl rfl rfl rfl (by simp)
  case storeHighC =>
    refine effect_of (.write _ s.cpu.a s _ (.none _)) rfl ?_ ?_ ?_ rfl ?_ (by simp) <;>
      simp [storeA, State.advance]
  case loadAbs a => exact effect_cpu rfl (.inl rfl) rfl rfl rfl rfl (by simp)
  case storeAbs a =>
    refine effect_of (.write _ s.cpu.a s _ (.none _)) rfl ?_ ?_ ?_ rfl ?_ (by simp) <;>
      simp [storeA, State.advance]

/-- What a completed instruction does. -/
theorem exec_effect {i : Instr} {s t : State} (h : exec i s = .next t) : Effect (formOf i) s t :=
  form_effect (by rw [← exec_form]; exact h)

/-- An instruction completes unless its form is STOP or an illegal byte. -/
theorem exec_completes {i : Instr} (s : State) (h : formOf i ≠ .stop) (h' : ∀ o, formOf i ≠ .illegal o) :
    ∃ t, exec i s = .next t := by
  rw [exec_form]
  generalize formOf i = f at h h'
  cases f
  case stop => exact absurd rfl h
  case illegal o => exact absurd rfl (h' o)
  all_goals exact ⟨_, rfl⟩

end Sys2Proof.Machine
end

