-- ==== Sys2Proof/Laws/Devices.lean ====
section
/-! SUPPORT. What the devices can do in a step, said once for each: the timers, the DMA copy and the PPU's
loop. -/

namespace Sys2Proof.Machine

theorem orZero (x : Byte) : x ||| 0 = x := BitVec.or_zero

/-! ## The timers -/

/-- One increment of TIMA changes TIMA, and perhaps raises the Timer request. -/
theorem timaTick_eq (s : State) :
    ∃ x, ∃ v : Byte, (v = 0 ∨ v = 4) ∧ timaTick s =
      { s with timer := { s.timer with tima := x }, irq := { s.irq with req := s.irq.req ||| v } } := by
  unfold timaTick
  split
  · exact ⟨s.timer.tma, 4, .inr rfl, rfl⟩
  · refine ⟨s.timer.tima + 1, 0, .inl rfl, ?_⟩
    rw [orZero]

theorem timaTicks_eq (n : Nat) (s : State) :
    ∃ x, ∃ v : Byte, (v = 0 ∨ v = 4) ∧ timaTicks n s =
      { s with timer := { s.timer with tima := x }, irq := { s.irq with req := s.irq.req ||| v } } := by
  induction n generalizing s with
  | zero =>
    refine ⟨s.timer.tima, 0, .inl rfl, ?_⟩
    rw [orZero]; rfl
  | succ n ih =>
    obtain ⟨x, v, hv, h⟩ := timaTick_eq s
    obtain ⟨y, w, hw, h'⟩ := ih (timaTick s)
    refine ⟨y, v ||| w, ?_, ?_⟩
    · rcases hv with rfl | rfl <;> rcases hw with rfl | rfl <;> simp
    · rw [timaTicks, h', h]
      simp only [BitVec.or_assoc]

theorem timerPeriod_pos (tac : Byte) : 16 ≤ timerPeriod tac ∧ timerPeriod tac ≤ 1024 := by
  unfold timerPeriod
  split <;> omega

/-- What the timers do: DIV, TIMA and the two accumulators change, and the Timer request may be raised. -/
theorem timerStep_eq (c : Nat) (s : State) :
    ∃ x y acc, ∃ v : Byte, (v = 0 ∨ v = 4) ∧ (s.timer.timaAcc < 1024 → acc < 1024) ∧ timerStep c s =
      { s with
        timer := { s.timer with div := x, divAcc := (s.timer.divAcc + c) % 256, tima := y, timaAcc := acc }
        irq := { s.irq with req := s.irq.req ||| v } } := by
  unfold timerStep timaStep
  split
  · obtain ⟨y, v, hv, h⟩ := timaTicks_eq
      (((dividerStep c s).timer.timaAcc + c) / timerPeriod (dividerStep c s).timer.tac)
      { dividerStep c s with timer := { (dividerStep c s).timer with
          timaAcc := ((dividerStep c s).timer.timaAcc + c) % timerPeriod (dividerStep c s).timer.tac } }
    refine ⟨_, y, _, v, hv, fun _ => ?_, h⟩
    have hp := timerPeriod_pos (dividerStep c s).timer.tac
    exact lt_of_lt_of_le (Nat.mod_lt _ (by omega)) hp.2
  · refine ⟨(dividerStep c s).timer.div, s.timer.tima, s.timer.timaAcc, 0, .inl rfl, id, ?_⟩
    rw [orZero]; rfl

/-- A run of increments in two parts. -/
theorem timaTicks_add (m n : Nat) (s : State) : timaTicks (m + n) s = timaTicks n (timaTicks m s) := by
  induction m generalizing s with
  | zero => rw [Nat.zero_add]; rfl
  | succ m ih => rw [Nat.succ_add]; exact ih (timaTick s)

/-! ## OAM DMA -/

/-- The copy changes the byte store alone. -/
theorem dmaCopy_eq (page : Byte) (i n : Nat) (s : State) :
    dmaCopy page i n s = { s with mem := (dmaCopy page i n s).mem } := by
  induction n generalizing i s with
  | zero => rfl
  | succ n ih =>
    rw [dmaCopy, ih]
    rfl

theorem dmaCopy_wf (page : Byte) (i n : Nat) {s : State} (h : Memory.wf s.mem = true) :
    Memory.wf (dmaCopy page i n s).mem = true := by
  induction n generalizing i s with
  | zero => exact h
  | succ n ih => exact ih (i + 1) (wf_write _ _ h)

/-- The copy leaves every key that it does not write. -/
theorem dmaCopy_other (page : Byte) (i n : Nat) (s : State) {k : Nat}
    (h : k < oamKey i ∨ oamKey (i + n) ≤ k) : (dmaCopy page i n s).readKey k = s.readKey k := by
  induction n generalizing i s with
  | zero => rfl
  | succ n ih =>
    rw [dmaCopy, ih (i + 1) _ (by unfold oamKey at h ⊢; omega)]
    exact readKey_writeKey_other s _ (by unfold oamKey at h ⊢; omega)

/-- The only address of the source range that shows an OAM byte is that byte's own address. -/
theorem loadKey_oam {a : Word} {s : State} {k : Nat} (hk : 0xFE00 ≤ k) (hk' : k < 0xFEA0)
    (h : loadKey a s = some k) : a.toNat = k := by
  have hr := ownerOf_range a
  unfold loadKey at h
  by_cases ho : s.overlayHit a = true
  · simp only [ho, if_true, Option.some.injEq] at h; exact h
  · simp only [ho, if_false, Bool.false_eq_true] at h
    by_cases hrom : ownerOf a = .rom
    · simp only [hrom, if_true, Option.some.injEq, Cart.romKey, romBase] at h
      split at h <;> omega
    · simp only [hrom, if_false] at h
      unfold storeKey at h
      cases hc : ownerOf a <;> simp only [hc] at h hr
      case rom => exact absurd hc hrom
      case unusable => simp at h
      case ie => simp at h
      case cartRam =>
        by_cases hacc : s.cart.ramAccessible = true
        · simp only [hacc, if_true, Option.some.injEq, Cart.ramKey, cartRamBase] at h; omega
        · simp [hacc] at h
      case io =>
        by_cases hw : isWaveRam a = true
        · simp only [hw, if_true, Option.some.injEq] at h; exact h
        · simp [hw] at h
      case echo =>
        have he : 0xC000 + a.toNat % 0x2000 = k := Option.some.inj h
        omega
      all_goals exact Option.some.inj h

/-- A write of an OAM byte changes no read of another address. -/
theorem busRead_write_oam {a : Word} {s : State} {i : Nat} (v : Byte) (hi : i < 160)
    (h : a.toNat ≠ oamKey i) : busRead a (s.writeKey (oamKey i) v) = busRead a s := by
  rw [busRead_writeKey]
  split
  · rename_i hk
    exact absurd (loadKey_oam (by unfold oamKey; omega) (by unfold oamKey; omega) hk) h
  · rfl

theorem toNat_dmaSource (page : Byte) {i : Nat} (h : i < 160) :
    (dmaSource page i).toNat = page.toNat * 256 + i := by
  rw [dmaSource, toNat_mkWord, BitVec.toNat_ofNat]
  omega

/-- A write of OAM byte `i` with its own source byte changes no source byte read after it. -/
theorem busRead_dma_write (page : Byte) (s : State) {i j : Nat} (hi : i < 160) (hj : j < 160)
    (hij : i ≠ j) (v : Byte) :
    busRead (dmaSource page j) (s.writeKey (oamKey i) v) = busRead (dmaSource page j) s := by
  refine busRead_write_oam v hi ?_
  rw [toNat_dmaSource page hj]
  unfold oamKey
  omega

/-- The copy gives each OAM byte the byte the bus showed at its source address before the copy (R436). -/
theorem dmaCopy_same (page : Byte) (i n : Nat) (s : State) (h : i + n ≤ 160) {j : Nat} (hi : i ≤ j)
    (hj : j < i + n) : (dmaCopy page i n s).readKey (oamKey j) = busRead (dmaSource page j) s := by
  induction n generalizing i s with
  | zero => omega
  | succ n ih =>
    rw [dmaCopy]
    by_cases hij : j = i
    · subst hij
      rw [dmaCopy_other _ _ _ _ (by unfold oamKey; omega), readKey_writeKey_same]
    · rw [ih (i + 1) _ (by omega) (by omega) (by omega)]
      exact busRead_dma_write page s (by omega) (by omega) (fun e => hij e.symm) _

/-- What DMA does in a step: its own registers and OAM change. -/
theorem dmaStep_eq (c : Nat) (s : State) :
    ∃ d m, dmaStep c s = { s with dma := d, mem := m } ∧
      (Memory.wf s.mem = true → Memory.wf m = true) ∧
      (∀ k, k < 0xFE00 ∨ 0xFEA0 ≤ k → Memory.read m k = s.readKey k) ∧
      d.reg = s.dma.reg ∧ d.page = s.dma.page ∧
      (d.active = true → s.dma.active = true ∧ 0 < d.remaining ∧ d.remaining ≤ s.dma.remaining) := by
  unfold dmaStep
  by_cases ha : s.dma.active = true
  · rw [if_pos ha]
    by_cases hr : s.dma.remaining - c = 0
    · dsimp only
      rw [if_pos hr]
      have he := dmaCopy_eq s.dma.page 0 160
        { s with dma := { s.dma with remaining := s.dma.remaining - c } }
      have hw := fun h => dmaCopy_wf s.dma.page 0 160
        (s := { s with dma := { s.dma with remaining := s.dma.remaining - c } }) h
      have ho := fun (k : Nat) h => dmaCopy_other s.dma.page 0 160
        { s with dma := { s.dma with remaining := s.dma.remaining - c } } (k := k) h
      generalize dmaCopy s.dma.page 0 160
        { s with dma := { s.dma with remaining := s.dma.remaining - c } } = t at he hw ho
      rw [he]
      exact ⟨_, t.mem, rfl, hw, fun k hk => ho k (by unfold oamKey; omega), rfl, rfl,
        fun h => by simp at h⟩
    · dsimp only
      rw [if_neg hr]
      exact ⟨_, _, rfl, id, fun k _ => rfl, rfl, rfl, fun _ => ⟨ha, by dsimp only; omega, by dsimp only; omega⟩⟩
  · rw [if_neg ha]
    exact ⟨s.dma, s.mem, rfl, id, fun k _ => rfl, rfl, rfl, fun h => absurd h ha⟩

/-! ## The PPU -/

/-- `t` is `s` but for the PPU's internal state and the two requests a PPU can raise. -/
def PpuEffect (s t : State) : Prop :=
  ∃ p, ∃ v : Byte, t = { s with ppu := p, irq := { s.irq with req := s.irq.req ||| v } } ∧
    v &&& 0xFC = 0 ∧
    p.lcdc = s.ppu.lcdc ∧ p.statEnables = s.ppu.statEnables ∧ p.scy = s.ppu.scy ∧ p.scx = s.ppu.scx ∧
    p.lyc = s.ppu.lyc ∧ p.bgp = s.ppu.bgp ∧ p.obp0 = s.ppu.obp0 ∧ p.obp1 = s.ppu.obp1 ∧
    p.wy = s.ppu.wy ∧ p.wx = s.ppu.wx ∧ (frameShaped s → frameShaped t)

theorem PpuEffect.refl (s : State) : PpuEffect s s :=
  ⟨s.ppu, 0, by rw [orZero], by simp, rfl, rfl, rfl, rfl, rfl, rfl, rfl, rfl, rfl, rfl, id⟩

theorem PpuEffect.trans {s t u : State} (h : PpuEffect s t) (h' : PpuEffect t u) : PpuEffect s u := by
  obtain ⟨p, v, rfl, hv, h1, h2, h3, h4, h5, h6, h7, h8, h9, h10, hf⟩ := h
  obtain ⟨q, w, rfl, hw, k1, k2, k3, k4, k5, k6, k7, k8, k9, k10, kf⟩ := h'
  refine ⟨q, v ||| w, by simp only [BitVec.or_assoc], ?_, k1.trans h1, k2.trans h2, k3.trans h3,
    k4.trans h4, k5.trans h5, k6.trans h6, k7.trans h7, k8.trans h8, k9.trans h9, k10.trans h10,
    fun h => kf (hf h)⟩
  rw [BitVec.and_comm, BitVec.and_or_distrib_left, BitVec.and_comm, hv, BitVec.and_comm, hw]
  rfl

/-- A change of the internal state alone, the framebuffer kept. -/
theorem ppuEffect_internal (s : State) (ly : Byte) (mode : PpuMode) (acc : Nat) (eq : Bool)
    (n b : List OamEntry) (off : Bool) :
    PpuEffect s { s with ppu := { s.ppu with ly := ly, mode := mode, acc := acc, lycEqual := eq,
                                             spritesNormal := n, spritesBehind := b,
                                             displayWasOff := off } } :=
  ⟨{ s.ppu with ly := ly, mode := mode, acc := acc, lycEqual := eq, spritesNormal := n,
                spritesBehind := b, displayWasOff := off }, 0, by rw [orZero], by simp, rfl, rfl, rfl, rfl, rfl, rfl, rfl, rfl, rfl, rfl, id⟩

theorem statRequest_effect (s : State) (k : Nat) : PpuEffect s (s.statRequest k) := by
  unfold State.statRequest
  split
  · exact ⟨s.ppu, 2, rfl, by decide, rfl, rfl, rfl, rfl, rfl, rfl, rfl, rfl, rfl, rfl, id⟩
  · exact .refl s

theorem vblankRequest_effect (s : State) : PpuEffect s (s.raiseIF 0) :=
  ⟨s.ppu, 1, rfl, by decide, rfl, rfl, rfl, rfl, rfl, rfl, rfl, rfl, rfl, rfl, id⟩

theorem gatherSprites_effect (s : State) : PpuEffect s (gatherSprites s) :=
  ppuEffect_internal s s.ppu.ly s.ppu.mode s.ppu.acc s.ppu.lycEqual _ _ s.ppu.displayWasOff

theorem setMode_effect (s : State) (m : PpuMode) : PpuEffect s (s.setMode m) :=
  ppuEffect_internal s s.ppu.ly m s.ppu.acc s.ppu.lycEqual _ _ s.ppu.displayWasOff

theorem setLY_effect (s : State) (n : Byte) : PpuEffect s (setLY n s) := by
  unfold setLY
  dsimp only
  have h := ppuEffect_internal s n s.ppu.mode s.ppu.acc (decide (n = s.ppu.lyc)) s.ppu.spritesNormal
    s.ppu.spritesBehind s.ppu.displayWasOff
  split
  · exact h.trans (statRequest_effect _ _)
  · exact h

theorem lineShades_length (s : State) (ly : Nat) : (s.lineShades ly).length = 160 := by
  simp [State.lineShades]

theorem renderLine_effect (s : State) (ly : Nat) : PpuEffect s (renderLine ly s) := by
  refine ⟨{ s.ppu with framebuffer := s.ppu.framebuffer.set ly (s.lineShades ly) }, 0,
    by rw [orZero]; rfl, by simp, rfl, rfl, rfl, rfl, rfl, rfl, rfl, rfl, rfl, rfl, fun h => ?_⟩
  refine ⟨by simpa [renderLine] using h.1, fun row hrow => ?_⟩
  rcases List.mem_or_eq_of_mem_set (show row ∈ s.ppu.framebuffer.set ly (s.lineShades ly) from hrow) with
    hm | rfl
  · exact h.2 row hm
  · exact lineShades_length s ly

theorem enterOamSearch_effect (s : State) : PpuEffect s (enterOamSearch s) :=
  ((setMode_effect s _).trans (gatherSprites_effect _)).trans (statRequest_effect _ _)

theorem transition_effect (s : State) : PpuEffect s (transition s) := by
  unfold transition
  split
  · exact setMode_effect s _
  · exact ((renderLine_effect s _).trans (setMode_effect _ _)).trans (statRequest_effect _ _)
  · dsimp only
    split
    · exact (((setLY_effect s _).trans (setMode_effect _ _)).trans (vblankRequest_effect _)).trans
        (statRequest_effect _ _)
    · exact (setLY_effect s _).trans (enterOamSearch_effect _)
  · split
    · exact setLY_effect s _
    · exact (setLY_effect s _).trans (enterOamSearch_effect _)

theorem spendBudget_effect (s : State) :
    PpuEffect s { s with ppu := { s.ppu with acc := s.ppu.acc - budget s.ppu.mode } } :=
  ppuEffect_internal s s.ppu.ly s.ppu.mode _ s.ppu.lycEqual _ _ s.ppu.displayWasOff

theorem ppuLoop_effect (fuel : Nat) (s : State) : PpuEffect s (ppuLoop fuel s) := by
  induction fuel generalizing s with
  | zero => exact .refl s
  | succ fuel ih =>
    rw [ppuLoop]
    split
    · exact .refl s
    · exact ((spendBudget_effect s).trans (transition_effect _)).trans (ih _)

theorem ppuStep_effect (c : Nat) (s : State) : PpuEffect s (ppuStep c s) := by
  unfold ppuStep
  split
  · exact ppuEffect_internal s 0 .oamSearch 0 (decide (s.ppu.lyc = 0)) _ _ true
  · dsimp only
    refine PpuEffect.trans ?_ (ppuLoop_effect _ _)
    refine PpuEffect.trans (t := if s.ppu.displayWasOff = true then
      gatherSprites { s with ppu := { s.ppu with displayWasOff := false } } else s) ?_
      (ppuEffect_internal _ _ _ _ _ _ _ _)
    split
    · exact (ppuEffect_internal s s.ppu.ly s.ppu.mode s.ppu.acc s.ppu.lycEqual _ _ false).trans
        (gatherSprites_effect _)
    · exact .refl s

/-! ### The loop's mode, line and accumulator -/

theorem budget_pos (m : PpuMode) : 80 ≤ budget m := by cases m <;> decide

@[simp] theorem statRequest_ppu (s : State) (k : Nat) : (s.statRequest k).ppu = s.ppu := by
  unfold State.statRequest; split <;> rfl

theorem setLY_fields (n : Byte) (s : State) :
    (setLY n s).ppu.ly = n ∧ (setLY n s).ppu.mode = s.ppu.mode ∧ (setLY n s).ppu.acc = s.ppu.acc := by
  unfold setLY
  dsimp only
  split
  · rw [statRequest_ppu]; exact ⟨rfl, rfl, rfl⟩
  · exact ⟨rfl, rfl, rfl⟩

theorem enterOamSearch_fields (s : State) :
    (enterOamSearch s).ppu.ly = s.ppu.ly ∧ (enterOamSearch s).ppu.mode = .oamSearch ∧
      (enterOamSearch s).ppu.acc = s.ppu.acc := by
  unfold enterOamSearch
  rw [statRequest_ppu]
  exact ⟨rfl, rfl, rfl⟩

/-- The line and the mode after a transition, and the accumulator it keeps (R443-R446). -/
theorem transition_fields (s : State) :
    (transition s).ppu.acc = s.ppu.acc ∧
    (s.ppu.mode = .oamSearch →
      (transition s).ppu.mode = .pixelTransfer ∧ (transition s).ppu.ly = s.ppu.ly) ∧
    (s.ppu.mode = .pixelTransfer →
      (transition s).ppu.mode = .hBlank ∧ (transition s).ppu.ly = s.ppu.ly) ∧
    (s.ppu.mode = .hBlank → (transition s).ppu.ly = s.ppu.ly + 1 ∧
      (transition s).ppu.mode = if s.ppu.ly + 1 = 144 then .vBlank else .oamSearch) ∧
    (s.ppu.mode = .vBlank →
      (s.ppu.ly.toNat < 153 → (transition s).ppu.mode = .vBlank ∧ (transition s).ppu.ly = s.ppu.ly + 1) ∧
      (153 ≤ s.ppu.ly.toNat → (transition s).ppu.mode = .oamSearch ∧ (transition s).ppu.ly = 0)) := by
  cases hm : s.ppu.mode <;> simp only [reduceCtorEq, false_implies, true_implies, true_and, and_true] <;>
    unfold transition <;> rw [hm] <;> dsimp only
  case oamSearch => exact ⟨rfl, rfl, rfl⟩
  case pixelTransfer => rw [statRequest_ppu]; exact ⟨rfl, rfl, rfl⟩
  case hBlank =>
    obtain ⟨h1, h2, h3⟩ := setLY_fields (s.ppu.ly + 1) s
    rw [h1]
    split
    · rw [statRequest_ppu]; exact ⟨h3, h1, rfl⟩
    · obtain ⟨k1, k2, k3⟩ := enterOamSearch_fields (setLY (s.ppu.ly + 1) s)
      rw [k1, k2, k3]; exact ⟨h3, h1, rfl⟩
  case vBlank =>
    split
    · rename_i hl
      obtain ⟨h1, h2, h3⟩ := setLY_fields (s.ppu.ly + 1) s
      exact ⟨h3, fun _ => ⟨h2.trans hm, h1⟩, fun hc => absurd hl (by omega)⟩
    · rename_i hl
      obtain ⟨h1, h2, h3⟩ := setLY_fields 0 s
      obtain ⟨k1, k2, k3⟩ := enterOamSearch_fields (setLY 0 s)
      rw [k1, k2, k3]; exact ⟨h3, fun hc => absurd hc hl, fun _ => ⟨rfl, h1⟩⟩

theorem transition_acc (s : State) : (transition s).ppu.acc = s.ppu.acc := (transition_fields s).1

/-- A transition keeps the lines and the modes that go with them (R8, R445, R446). -/
theorem transition_scanline {s : State} (h : scanlineInRange s) : scanlineInRange (transition s) := by
  obtain ⟨_, h1, h2, h3, h4⟩ := transition_fields s
  obtain ⟨hle, hiff⟩ := h
  have hadd : s.ppu.ly.toNat ≤ 153 → (s.ppu.ly + 1).toNat = s.ppu.ly.toNat + 1 := fun h => by
    rw [BitVec.toNat_add]; simp; omega
  cases hm : s.ppu.mode
  · obtain ⟨e1, e2⟩ := h1 hm
    rw [hm] at hiff
    refine ⟨by rw [e2]; exact hle, ?_⟩
    rw [e1, e2]
    simpa using hiff
  · obtain ⟨e1, e2⟩ := h2 hm
    rw [hm] at hiff
    refine ⟨by rw [e2]; exact hle, ?_⟩
    rw [e1, e2]
    simpa using hiff
  · obtain ⟨e1, e2⟩ := h3 hm
    rw [hm] at hiff
    have hlt : s.ppu.ly.toNat < 144 := by simpa using hiff
    have hn := hadd hle
    unfold scanlineInRange
    rw [e1, e2, hn]
    by_cases he : s.ppu.ly + 1 = 144
    · have : s.ppu.ly.toNat + 1 = 144 := by rw [← hn, he]; rfl
      rw [if_pos he]
      simp; omega
    · have : s.ppu.ly.toNat + 1 ≠ 144 := fun hc => he (BitVec.eq_of_toNat_eq (by rw [hn, hc]; rfl))
      rw [if_neg he]
      simp; omega
  · rw [hm] at hiff
    have hge : 144 ≤ s.ppu.ly.toNat := hiff.1 rfl
    by_cases hl : s.ppu.ly.toNat < 153
    · obtain ⟨e1, e2⟩ := (h4 hm).1 hl
      have hn := hadd hle
      unfold scanlineInRange
      rw [e1, e2, hn]
      simp; omega
    · obtain ⟨e1, e2⟩ := (h4 hm).2 (by omega)
      unfold scanlineInRange
      rw [e1, e2]
      simp

/-- The accumulator is enough fuel: the loop ends with the accumulator below the mode's budget. -/
theorem ppuLoop_bounded (fuel : Nat) (s : State) (h : s.ppu.acc ≤ fuel) :
    ppuAccBounded (ppuLoop fuel s) := by
  induction fuel generalizing s with
  | zero =>
    have hb := budget_pos s.ppu.mode
    show s.ppu.acc < budget s.ppu.mode
    omega
  | succ fuel ih =>
    rw [ppuLoop]
    split
    · assumption
    · refine ih _ ?_
      rw [transition_acc]
      have hb := budget_pos s.ppu.mode
      dsimp only
      omega

theorem ppuLoop_scanline (fuel : Nat) {s : State} (h : scanlineInRange s) :
    scanlineInRange (ppuLoop fuel s) := by
  induction fuel generalizing s with
  | zero => exact h
  | succ fuel ih =>
    rw [ppuLoop]
    split
    · exact h
    · exact ih (transition_scanline (s := { s with ppu := { s.ppu with
        acc := s.ppu.acc - budget s.ppu.mode } }) h)

/-- After a PPU step the accumulator is below the mode's budget (R49, R440), from any state. -/
theorem ppuStep_bounded (c : Nat) (s : State) : ppuAccBounded (ppuStep c s) := by
  unfold ppuStep
  split
  · show (0 : Nat) < 80; omega
  · exact ppuLoop_bounded _ _ le_rfl

theorem ppuStep_scanline (c : Nat) {s : State} (h : scanlineInRange s) :
    scanlineInRange (ppuStep c s) := by
  unfold ppuStep
  split
  · refine ⟨by show (0 : Nat) ≤ 153; omega, ?_⟩
    show (PpuMode.oamSearch = .vBlank ↔ 144 ≤ 0)
    simp
  · dsimp only
    refine ppuLoop_scanline _ ?_
    split
    · exact h
    · exact h

end Sys2Proof.Machine
end

