-- ==== Sys2Proof/Laws/Params.lean ====
section
/-! SUPPORT. The session's parameters: every function the spec allows is one of the model's tables, what the
default tables hold, and that no bus access depends on the costs. -/

namespace Sys2Proof.Machine

/-! ## Every parameter value has a table -/

/-- Any function from bytes to costs is a vector of 256 costs. -/
theorem vector_of_byteFunction (f : Byte → Nat) :
    ∃ v : Vector Nat 256, ∀ o : Byte, v[o.toNat]'o.isLt = f o := by
  refine ⟨Vector.ofFn fun i => f (BitVec.ofNat 8 i), fun o => ?_⟩
  simp

/-- Any three functions from bytes to costs are a `CYCLES` (R10, D4). -/
theorem cycleTable_of_functions (op notTaken cb : Byte → Nat) :
    ∃ c : CycleTable, ∀ (s : State) (o : Byte), s.params.cycles = c →
      s.opCost o = op o ∧ s.notTakenCost o = notTaken o ∧ s.cbCost o = cb o := by
  obtain ⟨u, hu⟩ := vector_of_byteFunction op
  obtain ⟨v, hv⟩ := vector_of_byteFunction notTaken
  obtain ⟨w, hw⟩ := vector_of_byteFunction cb
  refine ⟨⟨u, v, w⟩, fun s o h => ?_⟩
  simp only [State.opCost, State.notTakenCost, State.cbCost, h, hu, hv, hw, and_self]

/-- The selection that a joypad entry stands for. -/
def joypadSel (i : BitVec 10) : BitVec 2 := (i >>> 8).setWidth 2

/-- The buttons that a joypad entry stands for. -/
def joypadButtons (i : BitVec 10) : Buttons where
  right := i.getLsbD 0
  left := i.getLsbD 1
  up := i.getLsbD 2
  down := i.getLsbD 3
  a := i.getLsbD 4
  b := i.getLsbD 5
  select := i.getLsbD 6
  start := i.getLsbD 7

/-- An entry gives its selection and its buttons back: no two pairs share an entry. -/
theorem joypadIndex_inverse (sel : BitVec 2) (b : Buttons) :
    joypadSel (joypadIndex sel b) = sel ∧ joypadButtons (joypadIndex sel b) = b := by
  obtain ⟨r, l, u, d, a, b, e, t⟩ := b
  cases r <;> cases l <;> cases u <;> cases d <;> cases a <;> cases b <;> cases e <;> cases t <;>
    (revert sel; decide)

/-- Any function of a selection and the buttons is a `JOYPAD_READ` (R10, D24). -/
theorem joypadRead_of_function (f : BitVec 2 → Buttons → BitVec 4) :
    ∃ j : JoypadRead, ∀ sel b, joypadLines j sel b = f sel b := by
  refine ⟨.table (Vector.ofFn fun i => f (joypadSel (BitVec.ofNat 10 i)) (joypadButtons (BitVec.ofNat 10 i))),
    fun sel b => ?_⟩
  obtain ⟨h1, h2⟩ := joypadIndex_inverse sel b
  simp [joypadLines, h1, h2]

/-- A table that lists a partial function's values on the bytes gives the function. -/
theorem lookup_rows {α : Type} (f : Byte → Option α) (b : Byte) (l : List Byte) (hb : b ∈ l) :
    (l.filterMap fun x => (f x).map fun v => (x, v)).lookup b = f b := by
  induction l with
  | nil => cases hb
  | cons x l ih =>
    by_cases hx : b = x
    · subst hx
      cases hf : f b with
      | some v => simp [hf]
      | none =>
        simp only [List.filterMap_cons, hf, Option.map_none]
        by_cases hl : b ∈ l
        · rw [ih hl, hf]
        · rw [List.lookup_eq_none_iff]
          intro p hp
          obtain ⟨y, hy, hp⟩ := List.mem_filterMap.mp hp
          simp only [Option.map_eq_some_iff] at hp
          obtain ⟨v, _, rfl⟩ := hp
          simpa using fun h : b = y => hl (h ▸ hy)
    · have hl : b ∈ l := by simpa [hx] using hb
      cases hf : f x with
      | none => simpa [hf] using ih hl
      | some v =>
        have hx' : (b == x) = false := beq_eq_false_iff_ne.mpr hx
        simpa [hf, List.lookup_cons, hx'] using ih hl

/-- Any partial function from header bytes is a header table (R100-R102). -/
theorem headerTable_of_function {α : Type} (f : Byte → Option α) :
    ∃ l : List (Byte × α), ∀ b, l.lookup b = f b :=
  ⟨((List.range 256).map (BitVec.ofNat 8)).filterMap fun x => (f x).map fun v => (x, v), fun b =>
    lookup_rows f b _ (List.mem_map.mpr ⟨b.toNat, List.mem_range.mpr b.isLt, by simp⟩)⟩

/-! ## The default costs (R530) -/

theorem opCost_default {s : State} (h : s.params.cycles = CycleTable.default) (o : Byte) :
    s.opCost o = CycleTable.opRows.getD o.toNat 0 := by
  simp [State.opCost, h, CycleTable.default, CycleTable.length_opRows, o.isLt]

theorem notTakenCost_default {s : State} (h : s.params.cycles = CycleTable.default) (o : Byte) :
    s.notTakenCost o = CycleTable.notTakenRows.getD o.toNat 0 := by
  simp [State.notTakenCost, h, CycleTable.default, CycleTable.length_notTakenRows, o.isLt]

theorem cbCost_default {s : State} (h : s.params.cycles = CycleTable.default) (o : Byte) :
    s.cbCost o = CycleTable.cbRows.getD o.toNat 0 := by
  simp [State.cbCost, h, CycleTable.default, CycleTable.length_cbRows, o.isLt]

/-! ## No bus access depends on the costs (R531) -/

@[simp] theorem withCycles_params (s : State) (c : CycleTable) :
    (s.withCycles c).params = { s.params with cycles := c } := rfl
@[simp] theorem withCycles_cpu (s : State) (c : CycleTable) : (s.withCycles c).cpu = s.cpu := rfl
@[simp] theorem withCycles_irq (s : State) (c : CycleTable) : (s.withCycles c).irq = s.irq := rfl
@[simp] theorem withCycles_timer (s : State) (c : CycleTable) : (s.withCycles c).timer = s.timer := rfl
@[simp] theorem withCycles_dma (s : State) (c : CycleTable) : (s.withCycles c).dma = s.dma := rfl
@[simp] theorem withCycles_ppu (s : State) (c : CycleTable) : (s.withCycles c).ppu = s.ppu := rfl
@[simp] theorem withCycles_sound (s : State) (c : CycleTable) : (s.withCycles c).sound = s.sound := rfl
@[simp] theorem withCycles_p1Select (s : State) (c : CycleTable) : (s.withCycles c).p1Select = s.p1Select := rfl
@[simp] theorem withCycles_sb (s : State) (c : CycleTable) : (s.withCycles c).sb = s.sb := rfl
@[simp] theorem withCycles_sc (s : State) (c : CycleTable) : (s.withCycles c).sc = s.sc := rfl
@[simp] theorem withCycles_buttons (s : State) (c : CycleTable) : (s.withCycles c).buttons = s.buttons := rfl
@[simp] theorem withCycles_cart (s : State) (c : CycleTable) : (s.withCycles c).cart = s.cart := rfl
@[simp] theorem withCycles_mem (s : State) (c : CycleTable) : (s.withCycles c).mem = s.mem := rfl
@[simp] theorem withCycles_overlayActive (s : State) (c : CycleTable) : (s.withCycles c).overlayActive = s.overlayActive := rfl
@[simp] theorem withCycles_fault (s : State) (c : CycleTable) : (s.withCycles c).fault = s.fault := rfl
@[simp] theorem withCycles_cycles (s : State) (c : CycleTable) : (s.withCycles c).cycles = s.cycles := rfl

@[simp] theorem busRead_withCycles (a : Word) (s : State) (c : CycleTable) :
    busRead a (s.withCycles c) = busRead a s := by
  unfold busRead State.overlayHit
  cases ownerOf a <;> rfl

@[simp] theorem busWrite_withCycles (a : Word) (v : Byte) (s : State) (c : CycleTable) :
    busWrite a v (s.withCycles c) = (busWrite a v s).withCycles c := by
  unfold busWrite
  cases ownerOf a
  case io => dsimp only; unfold ioWrite; cases ioRegister a <;> rfl
  case cartRam =>
    show ite (s.cart.ramAccessible = true) _ _ = State.withCycles (ite (s.cart.ramAccessible = true) _ _) c
    split_ifs <;> rfl
  all_goals rfl

@[simp] theorem push16_withCycles (v : Word) (s : State) (c : CycleTable) :
    push16 v (s.withCycles c) = (push16 v s).withCycles c := by
  simp only [push16_eq, withCycles_cpu, busWrite_withCycles]
  rfl

@[simp] theorem get8_withCycles (r : R8) (s : State) (c : CycleTable) :
    get8 r (s.withCycles c) = get8 r s := by
  cases r
  case mHL => exact busRead_withCycles s.hl s c
  all_goals rfl

@[simp] theorem set8_withCycles (r : R8) (v : Byte) (s : State) (c : CycleTable) :
    set8 r v (s.withCycles c) = (set8 r v s).withCycles c := by
  cases r
  case mHL => exact busWrite_withCycles s.hl v s c
  all_goals rfl

@[simp] theorem pop16Value_withCycles (s : State) (c : CycleTable) :
    pop16Value (s.withCycles c) = pop16Value s := by
  simp only [pop16Value, busRead16, withCycles_cpu, busRead_withCycles]

@[simp] theorem fetchInstr_withCycles (s : State) (c : CycleTable) :
    fetchInstr (s.withCycles c) = fetchInstr s := by
  simp only [fetchInstr, busRead_withCycles]
  rfl

end Sys2Proof.Machine
end

