-- ==== Sys2Proof/Laws/Words.lean ====
section
/-! SUPPORT. The words of the statements and the model's operations: each word the statements write in natural
numbers is the operation the meanings use. -/

namespace Sys2Proof.Claims

open Sys2Proof.Machine

/-! ## Words and bytes -/

theorem word_eq (hi lo : Byte) : word hi lo = mkWord hi lo := by
  apply BitVec.eq_of_toNat_eq
  have := hi.isLt
  have := lo.isLt
  rw [toNat_mkWord]
  simp only [word, BitVec.toNat_ofNat]
  omega

theorem low_eq (w : Word) : low w = loByte w := by
  apply BitVec.eq_of_toNat_eq
  simp [low, loByte]

theorem high_eq (w : Word) : high w = hiByte w := by
  apply BitVec.eq_of_toNat_eq
  have := w.isLt
  rw [toNat_hiByte]
  simp only [high, BitVec.toNat_ofNat]
  omega

theorem highPage_eq (n : Byte) : BitVec.ofNat 16 (0xFF00 + n.toNat) = highPage n := by
  apply BitVec.eq_of_toNat_eq
  simp [highPage, BitVec.toNat_add]

/-! ## Flags and conditions -/

theorem flagByte_eq (z n h c : Bool) : flagByte z n h c = Flags.toByte ⟨z, n, h, c⟩ := by
  cases z <;> cases n <;> cases h <;> cases c <;> rfl

theorem condition_eq (c : Cond) (s : State) : condition c s = condHolds c s := by cases c <;> rfl

theorem interruptPending_iff (s : State) : interruptPending s ↔ s.pending = true :=
  (decide_eq_true_iff (p := s.pendingBits ≠ 0)).symm

/-! ## The PC and the stack -/

theorem pcAfter_eq (s : State) (len : Nat) : pcAfter s len = s.pcNext len := by
  apply BitVec.eq_of_toNat_eq
  have := s.cpu.pc.isLt
  unfold pcAfter State.pcNext
  cases s.cpu.haltBugPending <;> simp [BitVec.toNat_sub, BitVec.toNat_add]
  omega

theorem fetchAt_eq (s : State) (k : Nat) : fetchAt s k = s.fetchAddr k := by
  apply BitVec.eq_of_toNat_eq
  have := s.cpu.pc.isLt
  unfold fetchAt State.fetchAddr
  rcases Nat.eq_zero_or_pos k with rfl | hk
  · simp
    omega
  · cases s.cpu.haltBugPending <;> simp [BitVec.toNat_sub, BitVec.toNat_add, hk, Nat.ne_of_gt hk]
    omega

theorem pushed_eq (v : Word) (s : State) : pushed v s = push16 v s := by
  rw [push16_eq, pushed, low_eq, high_eq]

theorem popped_eq (s : State) : popped s = pop16Value s := word_eq _ _

theorem unstacked_eq (s : State) : unstacked s = pop16 s := rfl

/-! ## Costs (R530) -/

theorem tableCost_cb (b : Byte) (s : State) : tableCost 0xCB b s = s.cbCost b := rfl

/-- A conditional form whose condition fails. -/
theorem tableCost_notTaken {o b : Byte} {c : Cond} {n : Nat} {s : State} (h : (o, c, n) ∈ notTaken)
    (hc : condition c s = false) : tableCost o b s = s.notTakenCost o := by
  have ho : o ≠ 0xCB := by
    rintro rfl
    simp [notTaken] at h
  have ha : notTaken.any (fun r => r.1 = o && !condition r.2.1 s) = true :=
    List.any_eq_true.mpr ⟨_, h, by simp [hc]⟩
  simp only [tableCost, ho, ha, if_false, if_true]
  rfl

/-- Every other form: one that is not conditional, or whose condition holds. -/
theorem tableCost_op {o : Byte} (b : Byte) {s : State} (ho : o ≠ 0xCB)
    (h : ∀ r ∈ notTaken, r.1 = o → condition r.2.1 s = true) : tableCost o b s = s.opCost o := by
  have ha : ¬notTaken.any (fun r => r.1 = o && !condition r.2.1 s) = true := by
    rw [List.any_eq_true]
    rintro ⟨r, hr, hx⟩
    simp only [Bool.and_eq_true, decide_eq_true_eq, Bool.not_eq_true'] at hx
    rw [h r hr hx.1] at hx
    exact absurd hx.2 (by decide)
  simp only [tableCost, ho, if_false]
  rw [if_neg ha]
  rfl

/-! ## The joypad (R50) -/

theorem joypadEntry_eq (s : State) :
    joypadEntry s = (joypadIndex ((s.p1Select >>> 4).setWidth 2) s.buttons).toNat := by
  have hs : ((s.p1Select >>> 4).setWidth 2 : BitVec 2) =
      BitVec.ofBool (s.p1Select.getLsbD 5) ++ BitVec.ofBool (s.p1Select.getLsbD 4) := by
    generalize s.p1Select = p
    revert p
    decide
  unfold joypadEntry joypadIndex
  rw [hs]
  generalize s.p1Select.getLsbD 5 = x
  generalize s.p1Select.getLsbD 4 = y
  obtain ⟨r, l, u, d, a, b, e, t⟩ := s.buttons
  dsimp only
  revert x y r l u d a b e t
  decide

end Sys2Proof.Claims
end

