-- ==== Sys2Proof/Tests/Slice0.lean ====
section
/-! SUPPORT. Tests. The words are those of spec/opcode_table.json, bit by bit; the single steps are vectors of
spec/95_test_vectors.md, named there by the letter and number in the comment; the witnesses show, for each
statement with hypotheses, a state and operands that meet them, at the edges of its clauses. -/

namespace Sys2Proof.Tests

open Sys2Proof.Machine Sys2Proof.Claims

set_option maxRecDepth 20000

/-! ## Well-formedness -/

/-- The bare prefix is not a whole instruction. -/
theorem test_wellFormed_refuses_prefix : Instr.prefix_CB.wellFormed = false := by decide

theorem test_wellFormed_accepts : (Instr.ld_BC_n16 0xFFFF).wellFormed = true ∧
    (Instr.stop 0x00).wellFormed = true ∧ Instr.set_7_A.wellFormed = true := by decide

/-! ## Decoding -/

/-- Every list of bytes decodes to the instruction beside it, with nothing left. -/
def reads (l : List (List Byte × Instr)) : Bool :=
  l.all fun p =>
    match decode p.1 with
    | .ok (i, []) => decide (i = p.2)
    | _ => false

theorem test_decode_row_0 : reads [
    ([0b00000000], .nop),
    ([0b00000001, 0x34, 0x12], .ld_BC_n16 0x1234),
    ([0b00000010], .ld_mBC_A),
    ([0b00000011], .inc_BC),
    ([0b00000100], .inc_B),
    ([0b00000101], .dec_B),
    ([0b00000110, 0x9A], .ld_B_n8 0x9A),
    ([0b00000111], .rlca),
    ([0b00001000, 0x34, 0x12], .ld_ma16_SP 0x1234),
    ([0b00001001], .add_HL_BC),
    ([0b00001010], .ld_A_mBC),
    ([0b00001011], .dec_BC),
    ([0b00001100], .inc_C),
    ([0b00001101], .dec_C),
    ([0b00001110, 0x9A], .ld_C_n8 0x9A),
    ([0b00001111], .rrca)] = true := by decide

theorem test_decode_row_1 : reads [
    ([0b00010000, 0x9A], .stop 0x9A),
    ([0b00010001, 0x34, 0x12], .ld_DE_n16 0x1234),
    ([0b00010010], .ld_mDE_A),
    ([0b00010011], .inc_DE),
    ([0b00010100], .inc_D),
    ([0b00010101], .dec_D),
    ([0b00010110, 0x9A], .ld_D_n8 0x9A),
    ([0b00010111], .rla),
    ([0b00011000, 0x9A], .jr_e8 0x9A),
    ([0b00011001], .add_HL_DE),
    ([0b00011010], .ld_A_mDE),
    ([0b00011011], .dec_DE),
    ([0b00011100], .inc_E),
    ([0b00011101], .dec_E),
    ([0b00011110, 0x9A], .ld_E_n8 0x9A),
    ([0b00011111], .rra)] = true := by decide

theorem test_decode_row_2 : reads [
    ([0b00100000, 0x9A], .jr_NZ_e8 0x9A),
    ([0b00100001, 0x34, 0x12], .ld_HL_n16 0x1234),
    ([0b00100010], .ld_mHLi_A),
    ([0b00100011], .inc_HL),
    ([0b00100100], .inc_H),
    ([0b00100101], .dec_H),
    ([0b00100110, 0x9A], .ld_H_n8 0x9A),
    ([0b00100111], .daa),
    ([0b00101000, 0x9A], .jr_Z_e8 0x9A),
    ([0b00101001], .add_HL_HL),
    ([0b00101010], .ld_A_mHLi),
    ([0b00101011], .dec_HL),
    ([0b00101100], .inc_L),
    ([0b00101101], .dec_L),
    ([0b00101110, 0x9A], .ld_L_n8 0x9A),
    ([0b00101111], .cpl)] = true := by decide

theorem test_decode_row_3 : reads [
    ([0b00110000, 0x9A], .jr_NC_e8 0x9A),
    ([0b00110001, 0x34, 0x12], .ld_SP_n16 0x1234),
    ([0b00110010], .ld_mHLd_A),
    ([0b00110011], .inc_SP),
    ([0b00110100], .inc_mHL),
    ([0b00110101], .dec_mHL),
    ([0b00110110, 0x9A], .ld_mHL_n8 0x9A),
    ([0b00110111], .scf),
    ([0b00111000, 0x9A], .jr_C_e8 0x9A),
    ([0b00111001], .add_HL_SP),
    ([0b00111010], .ld_A_mHLd),
    ([0b00111011], .dec_SP),
    ([0b00111100], .inc_A),
    ([0b00111101], .dec_A),
    ([0b00111110, 0x9A], .ld_A_n8 0x9A),
    ([0b00111111], .ccf)] = true := by decide

theorem test_decode_row_4 : reads [
    ([0b01000000], .ld_B_B),
    ([0b01000001], .ld_B_C),
    ([0b01000010], .ld_B_D),
    ([0b01000011], .ld_B_E),
    ([0b01000100], .ld_B_H),
    ([0b01000101], .ld_B_L),
    ([0b01000110], .ld_B_mHL),
    ([0b01000111], .ld_B_A),
    ([0b01001000], .ld_C_B),
    ([0b01001001], .ld_C_C),
    ([0b01001010], .ld_C_D),
    ([0b01001011], .ld_C_E),
    ([0b01001100], .ld_C_H),
    ([0b01001101], .ld_C_L),
    ([0b01001110], .ld_C_mHL),
    ([0b01001111], .ld_C_A)] = true := by decide

theorem test_decode_row_5 : reads [
    ([0b01010000], .ld_D_B),
    ([0b01010001], .ld_D_C),
    ([0b01010010], .ld_D_D),
    ([0b01010011], .ld_D_E),
    ([0b01010100], .ld_D_H),
    ([0b01010101], .ld_D_L),
    ([0b01010110], .ld_D_mHL),
    ([0b01010111], .ld_D_A),
    ([0b01011000], .ld_E_B),
    ([0b01011001], .ld_E_C),
    ([0b01011010], .ld_E_D),
    ([0b01011011], .ld_E_E),
    ([0b01011100], .ld_E_H),
    ([0b01011101], .ld_E_L),
    ([0b01011110], .ld_E_mHL),
    ([0b01011111], .ld_E_A)] = true := by decide

theorem test_decode_row_6 : reads [
    ([0b01100000], .ld_H_B),
    ([0b01100001], .ld_H_C),
    ([0b01100010], .ld_H_D),
    ([0b01100011], .ld_H_E),
    ([0b01100100], .ld_H_H),
    ([0b01100101], .ld_H_L),
    ([0b01100110], .ld_H_mHL),
    ([0b01100111], .ld_H_A),
    ([0b01101000], .ld_L_B),
    ([0b01101001], .ld_L_C),
    ([0b01101010], .ld_L_D),
    ([0b01101011], .ld_L_E),
    ([0b01101100], .ld_L_H),
    ([0b01101101], .ld_L_L),
    ([0b01101110], .ld_L_mHL),
    ([0b01101111], .ld_L_A)] = true := by decide

theorem test_decode_row_7 : reads [
    ([0b01110000], .ld_mHL_B),
    ([0b01110001], .ld_mHL_C),
    ([0b01110010], .ld_mHL_D),
    ([0b01110011], .ld_mHL_E),
    ([0b01110100], .ld_mHL_H),
    ([0b01110101], .ld_mHL_L),
    ([0b01110110], .halt),
    ([0b01110111], .ld_mHL_A),
    ([0b01111000], .ld_A_B),
    ([0b01111001], .ld_A_C),
    ([0b01111010], .ld_A_D),
    ([0b01111011], .ld_A_E),
    ([0b01111100], .ld_A_H),
    ([0b01111101], .ld_A_L),
    ([0b01111110], .ld_A_mHL),
    ([0b01111111], .ld_A_A)] = true := by decide

theorem test_decode_row_8 : reads [
    ([0b10000000], .add_A_B),
    ([0b10000001], .add_A_C),
    ([0b10000010], .add_A_D),
    ([0b10000011], .add_A_E),
    ([0b10000100], .add_A_H),
    ([0b10000101], .add_A_L),
    ([0b10000110], .add_A_mHL),
    ([0b10000111], .add_A_A),
    ([0b10001000], .adc_A_B),
    ([0b10001001], .adc_A_C),
    ([0b10001010], .adc_A_D),
    ([0b10001011], .adc_A_E),
    ([0b10001100], .adc_A_H),
    ([0b10001101], .adc_A_L),
    ([0b10001110], .adc_A_mHL),
    ([0b10001111], .adc_A_A)] = true := by decide

theorem test_decode_row_9 : reads [
    ([0b10010000], .sub_B),
    ([0b10010001], .sub_C),
    ([0b10010010], .sub_D),
    ([0b10010011], .sub_E),
    ([0b10010100], .sub_H),
    ([0b10010101], .sub_L),
    ([0b10010110], .sub_mHL),
    ([0b10010111], .sub_A),
    ([0b10011000], .sbc_A_B),
    ([0b10011001], .sbc_A_C),
    ([0b10011010], .sbc_A_D),
    ([0b10011011], .sbc_A_E),
    ([0b10011100], .sbc_A_H),
    ([0b10011101], .sbc_A_L),
    ([0b10011110], .sbc_A_mHL),
    ([0b10011111], .sbc_A_A)] = true := by decide

theorem test_decode_row_A : reads [
    ([0b10100000], .and_B),
    ([0b10100001], .and_C),
    ([0b10100010], .and_D),
    ([0b10100011], .and_E),
    ([0b10100100], .and_H),
    ([0b10100101], .and_L),
    ([0b10100110], .and_mHL),
    ([0b10100111], .and_A),
    ([0b10101000], .xor_B),
    ([0b10101001], .xor_C),
    ([0b10101010], .xor_D),
    ([0b10101011], .xor_E),
    ([0b10101100], .xor_H),
    ([0b10101101], .xor_L),
    ([0b10101110], .xor_mHL),
    ([0b10101111], .xor_A)] = true := by decide

theorem test_decode_row_B : reads [
    ([0b10110000], .or_B),
    ([0b10110001], .or_C),
    ([0b10110010], .or_D),
    ([0b10110011], .or_E),
    ([0b10110100], .or_H),
    ([0b10110101], .or_L),
    ([0b10110110], .or_mHL),
    ([0b10110111], .or_A),
    ([0b10111000], .cp_B),
    ([0b10111001], .cp_C),
    ([0b10111010], .cp_D),
    ([0b10111011], .cp_E),
    ([0b10111100], .cp_H),
    ([0b10111101], .cp_L),
    ([0b10111110], .cp_mHL),
    ([0b10111111], .cp_A)] = true := by decide

theorem test_decode_row_C : reads [
    ([0b11000000], .ret_NZ),
    ([0b11000001], .pop_BC),
    ([0b11000010, 0x34, 0x12], .jp_NZ_a16 0x1234),
    ([0b11000011, 0x34, 0x12], .jp_a16 0x1234),
    ([0b11000100, 0x34, 0x12], .call_NZ_a16 0x1234),
    ([0b11000101], .push_BC),
    ([0b11000110, 0x9A], .add_A_n8 0x9A),
    ([0b11000111], .rst_00),
    ([0b11001000], .ret_Z),
    ([0b11001001], .ret),
    ([0b11001010, 0x34, 0x12], .jp_Z_a16 0x1234),
    ([0b11001011], .prefix_CB),
    ([0b11001100, 0x34, 0x12], .call_Z_a16 0x1234),
    ([0b11001101, 0x34, 0x12], .call_a16 0x1234),
    ([0b11001110, 0x9A], .adc_A_n8 0x9A),
    ([0b11001111], .rst_08)] = true := by decide

theorem test_decode_row_D : reads [
    ([0b11010000], .ret_NC),
    ([0b11010001], .pop_DE),
    ([0b11010010, 0x34, 0x12], .jp_NC_a16 0x1234),
    ([0b11010011], .illegal_D3),
    ([0b11010100, 0x34, 0x12], .call_NC_a16 0x1234),
    ([0b11010101], .push_DE),
    ([0b11010110, 0x9A], .sub_n8 0x9A),
    ([0b11010111], .rst_10),
    ([0b11011000], .ret_C),
    ([0b11011001], .reti),
    ([0b11011010, 0x34, 0x12], .jp_C_a16 0x1234),
    ([0b11011011], .illegal_DB),
    ([0b11011100, 0x34, 0x12], .call_C_a16 0x1234),
    ([0b11011101], .illegal_DD),
    ([0b11011110, 0x9A], .sbc_A_n8 0x9A),
    ([0b11011111], .rst_18)] = true := by decide

theorem test_decode_row_E : reads [
    ([0b11100000, 0x9A], .ldh_ma8_A 0x9A),
    ([0b11100001], .pop_HL),
    ([0b11100010], .ldh_mC_A),
    ([0b11100011], .illegal_E3),
    ([0b11100100], .illegal_E4),
    ([0b11100101], .push_HL),
    ([0b11100110, 0x9A], .and_n8 0x9A),
    ([0b11100111], .rst_20),
    ([0b11101000, 0x9A], .add_SP_e8 0x9A),
    ([0b11101001], .jp_HL),
    ([0b11101010, 0x34, 0x12], .ld_ma16_A 0x1234),
    ([0b11101011], .illegal_EB),
    ([0b11101100], .illegal_EC),
    ([0b11101101], .illegal_ED),
    ([0b11101110, 0x9A], .xor_n8 0x9A),
    ([0b11101111], .rst_28)] = true := by decide

theorem test_decode_row_F : reads [
    ([0b11110000, 0x9A], .ldh_A_ma8 0x9A),
    ([0b11110001], .pop_AF),
    ([0b11110010], .ldh_A_mC),
    ([0b11110011], .di),
    ([0b11110100], .illegal_F4),
    ([0b11110101], .push_AF),
    ([0b11110110, 0x9A], .or_n8 0x9A),
    ([0b11110111], .rst_30),
    ([0b11111000, 0x9A], .ld_HL_SPe8 0x9A),
    ([0b11111001], .ld_SP_HL),
    ([0b11111010, 0x34, 0x12], .ld_A_ma16 0x1234),
    ([0b11111011], .ei),
    ([0b11111100], .illegal_FC),
    ([0b11111101], .illegal_FD),
    ([0b11111110, 0x9A], .cp_n8 0x9A),
    ([0b11111111], .rst_38)] = true := by decide

theorem test_decode_cb_row_0 : reads [
    ([0b11001011, 0b00000000], .rlc_B),
    ([0b11001011, 0b00000001], .rlc_C),
    ([0b11001011, 0b00000010], .rlc_D),
    ([0b11001011, 0b00000011], .rlc_E),
    ([0b11001011, 0b00000100], .rlc_H),
    ([0b11001011, 0b00000101], .rlc_L),
    ([0b11001011, 0b00000110], .rlc_mHL),
    ([0b11001011, 0b00000111], .rlc_A),
    ([0b11001011, 0b00001000], .rrc_B),
    ([0b11001011, 0b00001001], .rrc_C),
    ([0b11001011, 0b00001010], .rrc_D),
    ([0b11001011, 0b00001011], .rrc_E),
    ([0b11001011, 0b00001100], .rrc_H),
    ([0b11001011, 0b00001101], .rrc_L),
    ([0b11001011, 0b00001110], .rrc_mHL),
    ([0b11001011, 0b00001111], .rrc_A)] = true := by decide

theorem test_decode_cb_row_1 : reads [
    ([0b11001011, 0b00010000], .rl_B),
    ([0b11001011, 0b00010001], .rl_C),
    ([0b11001011, 0b00010010], .rl_D),
    ([0b11001011, 0b00010011], .rl_E),
    ([0b11001011, 0b00010100], .rl_H),
    ([0b11001011, 0b00010101], .rl_L),
    ([0b11001011, 0b00010110], .rl_mHL),
    ([0b11001011, 0b00010111], .rl_A),
    ([0b11001011, 0b00011000], .rr_B),
    ([0b11001011, 0b00011001], .rr_C),
    ([0b11001011, 0b00011010], .rr_D),
    ([0b11001011, 0b00011011], .rr_E),
    ([0b11001011, 0b00011100], .rr_H),
    ([0b11001011, 0b00011101], .rr_L),
    ([0b11001011, 0b00011110], .rr_mHL),
    ([0b11001011, 0b00011111], .rr_A)] = true := by decide

theorem test_decode_cb_row_2 : reads [
    ([0b11001011, 0b00100000], .sla_B),
    ([0b11001011, 0b00100001], .sla_C),
    ([0b11001011, 0b00100010], .sla_D),
    ([0b11001011, 0b00100011], .sla_E),
    ([0b11001011, 0b00100100], .sla_H),
    ([0b11001011, 0b00100101], .sla_L),
    ([0b11001011, 0b00100110], .sla_mHL),
    ([0b11001011, 0b00100111], .sla_A),
    ([0b11001011, 0b00101000], .sra_B),
    ([0b11001011, 0b00101001], .sra_C),
    ([0b11001011, 0b00101010], .sra_D),
    ([0b11001011, 0b00101011], .sra_E),
    ([0b11001011, 0b00101100], .sra_H),
    ([0b11001011, 0b00101101], .sra_L),
    ([0b11001011, 0b00101110], .sra_mHL),
    ([0b11001011, 0b00101111], .sra_A)] = true := by decide

theorem test_decode_cb_row_3 : reads [
    ([0b11001011, 0b00110000], .swap_B),
    ([0b11001011, 0b00110001], .swap_C),
    ([0b11001011, 0b00110010], .swap_D),
    ([0b11001011, 0b00110011], .swap_E),
    ([0b11001011, 0b00110100], .swap_H),
    ([0b11001011, 0b00110101], .swap_L),
    ([0b11001011, 0b00110110], .swap_mHL),
    ([0b11001011, 0b00110111], .swap_A),
    ([0b11001011, 0b00111000], .srl_B),
    ([0b11001011, 0b00111001], .srl_C),
    ([0b11001011, 0b00111010], .srl_D),
    ([0b11001011, 0b00111011], .srl_E),
    ([0b11001011, 0b00111100], .srl_H),
    ([0b11001011, 0b00111101], .srl_L),
    ([0b11001011, 0b00111110], .srl_mHL),
    ([0b11001011, 0b00111111], .srl_A)] = true := by decide

theorem test_decode_cb_row_4 : reads [
    ([0b11001011, 0b01000000], .bit_0_B),
    ([0b11001011, 0b01000001], .bit_0_C),
    ([0b11001011, 0b01000010], .bit_0_D),
    ([0b11001011, 0b01000011], .bit_0_E),
    ([0b11001011, 0b01000100], .bit_0_H),
    ([0b11001011, 0b01000101], .bit_0_L),
    ([0b11001011, 0b01000110], .bit_0_mHL),
    ([0b11001011, 0b01000111], .bit_0_A),
    ([0b11001011, 0b01001000], .bit_1_B),
    ([0b11001011, 0b01001001], .bit_1_C),
    ([0b11001011, 0b01001010], .bit_1_D),
    ([0b11001011, 0b01001011], .bit_1_E),
    ([0b11001011, 0b01001100], .bit_1_H),
    ([0b11001011, 0b01001101], .bit_1_L),
    ([0b11001011, 0b01001110], .bit_1_mHL),
    ([0b11001011, 0b01001111], .bit_1_A)] = true := by decide

theorem test_decode_cb_row_5 : reads [
    ([0b11001011, 0b01010000], .bit_2_B),
    ([0b11001011, 0b01010001], .bit_2_C),
    ([0b11001011, 0b01010010], .bit_2_D),
    ([0b11001011, 0b01010011], .bit_2_E),
    ([0b11001011, 0b01010100], .bit_2_H),
    ([0b11001011, 0b01010101], .bit_2_L),
    ([0b11001011, 0b01010110], .bit_2_mHL),
    ([0b11001011, 0b01010111], .bit_2_A),
    ([0b11001011, 0b01011000], .bit_3_B),
    ([0b11001011, 0b01011001], .bit_3_C),
    ([0b11001011, 0b01011010], .bit_3_D),
    ([0b11001011, 0b01011011], .bit_3_E),
    ([0b11001011, 0b01011100], .bit_3_H),
    ([0b11001011, 0b01011101], .bit_3_L),
    ([0b11001011, 0b01011110], .bit_3_mHL),
    ([0b11001011, 0b01011111], .bit_3_A)] = true := by decide

theorem test_decode_cb_row_6 : reads [
    ([0b11001011, 0b01100000], .bit_4_B),
    ([0b11001011, 0b01100001], .bit_4_C),
    ([0b11001011, 0b01100010], .bit_4_D),
    ([0b11001011, 0b01100011], .bit_4_E),
    ([0b11001011, 0b01100100], .bit_4_H),
    ([0b11001011, 0b01100101], .bit_4_L),
    ([0b11001011, 0b01100110], .bit_4_mHL),
    ([0b11001011, 0b01100111], .bit_4_A),
    ([0b11001011, 0b01101000], .bit_5_B),
    ([0b11001011, 0b01101001], .bit_5_C),
    ([0b11001011, 0b01101010], .bit_5_D),
    ([0b11001011, 0b01101011], .bit_5_E),
    ([0b11001011, 0b01101100], .bit_5_H),
    ([0b11001011, 0b01101101], .bit_5_L),
    ([0b11001011, 0b01101110], .bit_5_mHL),
    ([0b11001011, 0b01101111], .bit_5_A)] = true := by decide

theorem test_decode_cb_row_7 : reads [
    ([0b11001011, 0b01110000], .bit_6_B),
    ([0b11001011, 0b01110001], .bit_6_C),
    ([0b11001011, 0b01110010], .bit_6_D),
    ([0b11001011, 0b01110011], .bit_6_E),
    ([0b11001011, 0b01110100], .bit_6_H),
    ([0b11001011, 0b01110101], .bit_6_L),
    ([0b11001011, 0b01110110], .bit_6_mHL),
    ([0b11001011, 0b01110111], .bit_6_A),
    ([0b11001011, 0b01111000], .bit_7_B),
    ([0b11001011, 0b01111001], .bit_7_C),
    ([0b11001011, 0b01111010], .bit_7_D),
    ([0b11001011, 0b01111011], .bit_7_E),
    ([0b11001011, 0b01111100], .bit_7_H),
    ([0b11001011, 0b01111101], .bit_7_L),
    ([0b11001011, 0b01111110], .bit_7_mHL),
    ([0b11001011, 0b01111111], .bit_7_A)] = true := by decide

theorem test_decode_cb_row_8 : reads [
    ([0b11001011, 0b10000000], .res_0_B),
    ([0b11001011, 0b10000001], .res_0_C),
    ([0b11001011, 0b10000010], .res_0_D),
    ([0b11001011, 0b10000011], .res_0_E),
    ([0b11001011, 0b10000100], .res_0_H),
    ([0b11001011, 0b10000101], .res_0_L),
    ([0b11001011, 0b10000110], .res_0_mHL),
    ([0b11001011, 0b10000111], .res_0_A),
    ([0b11001011, 0b10001000], .res_1_B),
    ([0b11001011, 0b10001001], .res_1_C),
    ([0b11001011, 0b10001010], .res_1_D),
    ([0b11001011, 0b10001011], .res_1_E),
    ([0b11001011, 0b10001100], .res_1_H),
    ([0b11001011, 0b10001101], .res_1_L),
    ([0b11001011, 0b10001110], .res_1_mHL),
    ([0b11001011, 0b10001111], .res_1_A)] = true := by decide

theorem test_decode_cb_row_9 : reads [
    ([0b11001011, 0b10010000], .res_2_B),
    ([0b11001011, 0b10010001], .res_2_C),
    ([0b11001011, 0b10010010], .res_2_D),
    ([0b11001011, 0b10010011], .res_2_E),
    ([0b11001011, 0b10010100], .res_2_H),
    ([0b11001011, 0b10010101], .res_2_L),
    ([0b11001011, 0b10010110], .res_2_mHL),
    ([0b11001011, 0b10010111], .res_2_A),
    ([0b11001011, 0b10011000], .res_3_B),
    ([0b11001011, 0b10011001], .res_3_C),
    ([0b11001011, 0b10011010], .res_3_D),
    ([0b11001011, 0b10011011], .res_3_E),
    ([0b11001011, 0b10011100], .res_3_H),
    ([0b11001011, 0b10011101], .res_3_L),
    ([0b11001011, 0b10011110], .res_3_mHL),
    ([0b11001011, 0b10011111], .res_3_A)] = true := by decide

theorem test_decode_cb_row_A : reads [
    ([0b11001011, 0b10100000], .res_4_B),
    ([0b11001011, 0b10100001], .res_4_C),
    ([0b11001011, 0b10100010], .res_4_D),
    ([0b11001011, 0b10100011], .res_4_E),
    ([0b11001011, 0b10100100], .res_4_H),
    ([0b11001011, 0b10100101], .res_4_L),
    ([0b11001011, 0b10100110], .res_4_mHL),
    ([0b11001011, 0b10100111], .res_4_A),
    ([0b11001011, 0b10101000], .res_5_B),
    ([0b11001011, 0b10101001], .res_5_C),
    ([0b11001011, 0b10101010], .res_5_D),
    ([0b11001011, 0b10101011], .res_5_E),
    ([0b11001011, 0b10101100], .res_5_H),
    ([0b11001011, 0b10101101], .res_5_L),
    ([0b11001011, 0b10101110], .res_5_mHL),
    ([0b11001011, 0b10101111], .res_5_A)] = true := by decide

theorem test_decode_cb_row_B : reads [
    ([0b11001011, 0b10110000], .res_6_B),
    ([0b11001011, 0b10110001], .res_6_C),
    ([0b11001011, 0b10110010], .res_6_D),
    ([0b11001011, 0b10110011], .res_6_E),
    ([0b11001011, 0b10110100], .res_6_H),
    ([0b11001011, 0b10110101], .res_6_L),
    ([0b11001011, 0b10110110], .res_6_mHL),
    ([0b11001011, 0b10110111], .res_6_A),
    ([0b11001011, 0b10111000], .res_7_B),
    ([0b11001011, 0b10111001], .res_7_C),
    ([0b11001011, 0b10111010], .res_7_D),
    ([0b11001011, 0b10111011], .res_7_E),
    ([0b11001011, 0b10111100], .res_7_H),
    ([0b11001011, 0b10111101], .res_7_L),
    ([0b11001011, 0b10111110], .res_7_mHL),
    ([0b11001011, 0b10111111], .res_7_A)] = true := by decide

theorem test_decode_cb_row_C : reads [
    ([0b11001011, 0b11000000], .set_0_B),
    ([0b11001011, 0b11000001], .set_0_C),
    ([0b11001011, 0b11000010], .set_0_D),
    ([0b11001011, 0b11000011], .set_0_E),
    ([0b11001011, 0b11000100], .set_0_H),
    ([0b11001011, 0b11000101], .set_0_L),
    ([0b11001011, 0b11000110], .set_0_mHL),
    ([0b11001011, 0b11000111], .set_0_A),
    ([0b11001011, 0b11001000], .set_1_B),
    ([0b11001011, 0b11001001], .set_1_C),
    ([0b11001011, 0b11001010], .set_1_D),
    ([0b11001011, 0b11001011], .set_1_E),
    ([0b11001011, 0b11001100], .set_1_H),
    ([0b11001011, 0b11001101], .set_1_L),
    ([0b11001011, 0b11001110], .set_1_mHL),
    ([0b11001011, 0b11001111], .set_1_A)] = true := by decide

theorem test_decode_cb_row_D : reads [
    ([0b11001011, 0b11010000], .set_2_B),
    ([0b11001011, 0b11010001], .set_2_C),
    ([0b11001011, 0b11010010], .set_2_D),
    ([0b11001011, 0b11010011], .set_2_E),
    ([0b11001011, 0b11010100], .set_2_H),
    ([0b11001011, 0b11010101], .set_2_L),
    ([0b11001011, 0b11010110], .set_2_mHL),
    ([0b11001011, 0b11010111], .set_2_A),
    ([0b11001011, 0b11011000], .set_3_B),
    ([0b11001011, 0b11011001], .set_3_C),
    ([0b11001011, 0b11011010], .set_3_D),
    ([0b11001011, 0b11011011], .set_3_E),
    ([0b11001011, 0b11011100], .set_3_H),
    ([0b11001011, 0b11011101], .set_3_L),
    ([0b11001011, 0b11011110], .set_3_mHL),
    ([0b11001011, 0b11011111], .set_3_A)] = true := by decide

theorem test_decode_cb_row_E : reads [
    ([0b11001011, 0b11100000], .set_4_B),
    ([0b11001011, 0b11100001], .set_4_C),
    ([0b11001011, 0b11100010], .set_4_D),
    ([0b11001011, 0b11100011], .set_4_E),
    ([0b11001011, 0b11100100], .set_4_H),
    ([0b11001011, 0b11100101], .set_4_L),
    ([0b11001011, 0b11100110], .set_4_mHL),
    ([0b11001011, 0b11100111], .set_4_A),
    ([0b11001011, 0b11101000], .set_5_B),
    ([0b11001011, 0b11101001], .set_5_C),
    ([0b11001011, 0b11101010], .set_5_D),
    ([0b11001011, 0b11101011], .set_5_E),
    ([0b11001011, 0b11101100], .set_5_H),
    ([0b11001011, 0b11101101], .set_5_L),
    ([0b11001011, 0b11101110], .set_5_mHL),
    ([0b11001011, 0b11101111], .set_5_A)] = true := by decide

theorem test_decode_cb_row_F : reads [
    ([0b11001011, 0b11110000], .set_6_B),
    ([0b11001011, 0b11110001], .set_6_C),
    ([0b11001011, 0b11110010], .set_6_D),
    ([0b11001011, 0b11110011], .set_6_E),
    ([0b11001011, 0b11110100], .set_6_H),
    ([0b11001011, 0b11110101], .set_6_L),
    ([0b11001011, 0b11110110], .set_6_mHL),
    ([0b11001011, 0b11110111], .set_6_A),
    ([0b11001011, 0b11111000], .set_7_B),
    ([0b11001011, 0b11111001], .set_7_C),
    ([0b11001011, 0b11111010], .set_7_D),
    ([0b11001011, 0b11111011], .set_7_E),
    ([0b11001011, 0b11111100], .set_7_H),
    ([0b11001011, 0b11111101], .set_7_L),
    ([0b11001011, 0b11111110], .set_7_mHL),
    ([0b11001011, 0b11111111], .set_7_A)] = true := by decide

/-- The bare prefix, incomplete lists, and what follows an instruction. -/
theorem test_decode_edges : decode [0xCB] = .ok (.prefix_CB, []) ∧ decode [] = .error .noByte ∧
    decode [0x01, 0x34] = .error (.truncated 0x01) ∧ decode [0x10] = .error (.truncated 0x10) ∧
    decode [0xCB, 0x7C, 0x55] = .ok (.bit_7_H, [0x55]) := by decide

/-- Table words: the prefix of a CB row stands in bits 15-8, and operand words are zeros. -/
theorem test_table_words : decodeTableWord 8 0x01 = some (.ld_BC_n16 0) ∧
    decodeTableWord 16 0xCB7C = some .bit_7_H ∧ decodeTableWord 8 0xCB = some .prefix_CB ∧
    decodeTableWord 8 0xD3 = some .illegal_D3 := by decide

/-! ## Single steps -/

/-- A board whose RAM holds code at 0xC000 and other cells, with the given CPU. -/
def board (code : List Byte) (cells : List Host.Cell) (c : Cpu) : State :=
  { State.reset with cpu := c, mem := Memory.ofCells (cellsFrom 0xC000 code ++ cells) }

/-- The CPU the vectors start from: code at 0xC000, a stack below 0xD000, no flag set. -/
def base : Cpu := { Cpu.reset with pc := 0xC000, sp := 0xD000, f := 0x00 }

/-- What a CPU step leaves, seen through `f`; none if it does not complete. -/
def after {α : Type} (s : State) (f : State → α) : Option α :=
  match cpuStep s with
  | .next t => some (f t)
  | _ => none

/-- A and F, the PC and the cost. -/
def accum (t : State) : Byte × Byte × Word × Nat := (t.cpu.a, t.cpu.f, t.cpu.pc, t.cycles)

/-- L2. -/
theorem test_ld_A_mHL :
    after (board [0x7E] [(0xC100, 0x5A)] { base with h := 0xC1, l := 0x00 })
      (fun t => (t.cpu.a, t.cycles)) = some (0x5A, 8) := by decide

/-- L3. -/
theorem test_ld_mHL_n8 :
    after (board [0x36, 0x99] [] { base with h := 0xC1, l := 0x00 })
      (fun t => (t.readKey 0xC100, t.cycles)) = some (0x99, 12) := by decide

/-- L4: HL wraps, and the store reaches IE. -/
theorem test_ld_mHLi_A :
    after (board [0x22] [] { base with h := 0xFF, l := 0xFF, a := 0x1F })
      (fun t => (t.irq.en, t.cpu.h, t.cpu.l, t.cycles)) = some (0x1F, 0x00, 0x00, 8) := by decide

/-- L6: the echo reads work RAM. -/
theorem test_ld_A_ma16 :
    after (board [0xFA, 0x00, 0xE1] [(0xC100, 0x77)] base)
      (fun t => (t.cpu.a, t.cycles)) = some (0x77, 16) := by decide

/-- L10: LY ignores writes. -/
theorem test_ldh_ma8_A :
    after (board [0xE0, 0x44] [] { base with a := 0x99 })
      (fun t => (t.ppu.ly, t.cycles)) = some (0x00, 12) := by decide

/-- L15: P1 with nothing selected. -/
theorem test_ldh_A_mC :
    after { board [0xF2] [] { base with c := 0x00 } with p1Select := 0x30 }
      (fun t => (t.cpu.a, t.cycles)) = some (0xFF, 8) := by decide

/-- L13. -/
theorem test_ldh_mC_A :
    after (board [0xE2] [] { base with c := 0x80, a := 0x05 })
      (fun t => (t.readKey 0xFF80, t.cycles)) = some (0x05, 8) := by decide

/-- S2. -/
theorem test_ld_ma16_SP :
    after (board [0x08, 0x00, 0xC1] [] { base with sp := 0xFFF8 })
      (fun t => (t.readKey 0xC100, t.readKey 0xC101, t.cycles)) = some (0xF8, 0xFF, 20) := by decide

/-- S4. -/
theorem test_push_BC :
    after (board [0xC5] [] { base with sp := 0xFFFE, b := 0x12, c := 0x34 })
      (fun t => (t.cpu.sp, t.readKey 0xFFFD, t.readKey 0xFFFC, t.cycles)) = some (0xFFFC, 0x12, 0x34, 16) := by decide

/-- S6: the low nibble of F is cleared. -/
theorem test_pop_AF :
    after (board [0xF1] [(0xD000, 0xFF), (0xD001, 0x12)] base)
      (fun t => (t.cpu.a, t.cpu.f, t.cpu.sp)) = some (0x12, 0xF0, 0xD002) := by decide

/-- S9: no carry out of bits 3 and 7. -/
theorem test_ld_HL_SPe8 :
    after (board [0xF8, 0xFF] [] { base with sp := 0x0000, f := 0xF0 })
      (fun t => (t.cpu.h, t.cpu.l, t.cpu.f, t.cycles)) = some (0xFF, 0xFF, 0x00, 12) := by decide

/-- A1. -/
theorem test_add_A_B :
    after (board [0x80] [] { base with a := 0x3A, b := 0xC6 })
      accum = some (0x00, 0xB0, 0xC001, 4) := by decide

/-- A6: the carry-in makes H. -/
theorem test_adc_A_n8 :
    after (board [0xCE, 0x0F] [] { base with a := 0x00, f := 0x10 })
      accum = some (0x10, 0x20, 0xC002, 8) := by decide

/-- A9. -/
theorem test_sub_n8 :
    after (board [0xD6, 0x40] [] { base with a := 0x3E })
      accum = some (0xFE, 0x50, 0xC002, 8) := by decide

/-- A13: the borrow-in makes H and C. -/
theorem test_sbc_A_n8 :
    after (board [0xDE, 0xFF] [] { base with a := 0x00, f := 0x10 })
      accum = some (0x00, 0xF0, 0xC002, 8) := by decide

/-- A15: C is cleared. -/
theorem test_and_n8 :
    after (board [0xE6, 0x00] [] { base with a := 0x5A, f := 0x30 })
      accum = some (0x00, 0xA0, 0xC002, 8) := by decide

/-- A16. -/
theorem test_xor_A :
    after (board [0xAF] [] { base with a := 0xFF, f := 0xF0 })
      accum = some (0x00, 0x80, 0xC001, 4) := by decide

/-- A18. -/
theorem test_or_mHL :
    after (board [0xB6] [(0xC100, 0x0F)] { base with a := 0x5A, h := 0xC1, l := 0x00 })
      accum = some (0x5F, 0x00, 0xC001, 8) := by decide

/-- A22. -/
theorem test_cp_n8 :
    after (board [0xFE, 0x40] [] { base with a := 0x3C })
      accum = some (0x3C, 0x50, 0xC002, 8) := by decide

/-- A23: C is kept. -/
theorem test_inc_A :
    after (board [0x3C] [] { base with a := 0xFF, f := 0x10 })
      accum = some (0x00, 0xB0, 0xC001, 4) := by decide

/-- A28. -/
theorem test_dec_mHL :
    after (board [0x35] [(0xC100, 0x00)] { base with h := 0xC1, l := 0x00 })
      (fun t => (t.readKey 0xC100, t.cpu.f, t.cycles)) = some (0xFF, 0x60, 12) := by decide

/-- A32. -/
theorem test_daa_add :
    after (board [0x27] [] { base with a := 0x9A })
      accum = some (0x00, 0x90, 0xC001, 4) := by decide

/-- A34. -/
theorem test_daa_sub :
    after (board [0x27] [] { base with a := 0xFA, f := 0x50 })
      accum = some (0x9A, 0x50, 0xC001, 4) := by decide

/-- A35. -/
theorem test_cpl :
    after (board [0x2F] [] { base with a := 0x35 })
      accum = some (0xCA, 0x60, 0xC001, 4) := by decide

/-- A37. -/
theorem test_ccf :
    after (board [0x3F] [] { base with a := 0x00, f := 0x90 })
      accum = some (0x00, 0x80, 0xC001, 4) := by decide

/-- A36. -/
theorem test_scf :
    after (board [0x37] [] { base with a := 0x00, f := 0xE0 })
      accum = some (0x00, 0x90, 0xC001, 4) := by decide

/-- W2: Z is kept. -/
theorem test_add_HL_HL :
    after (board [0x29] [] { base with h := 0x8A, l := 0x23, f := 0x80 })
      (fun t => (t.cpu.h, t.cpu.l, t.cpu.f, t.cycles)) = some (0x14, 0x46, 0xB0, 8) := by decide

/-- W5: no flag is written. -/
theorem test_dec_SP :
    after (board [0x3B] [] { base with sp := 0x0000, f := 0xF0 })
      (fun t => (t.cpu.sp, t.cpu.f, t.cycles)) = some (0xFFFF, 0xF0, 8) := by decide

/-- W8. -/
theorem test_add_SP_e8 :
    after (board [0xE8, 0xFF] [] { base with sp := 0x0001 })
      (fun t => (t.cpu.sp, t.cpu.f, t.cycles)) = some (0x0000, 0x30, 16) := by decide

/-- B2: Z is cleared. -/
theorem test_rlca :
    after (board [0x07] [] { base with a := 0x00, f := 0x80 })
      accum = some (0x00, 0x00, 0xC001, 4) := by decide

/-- B5. -/
theorem test_rra :
    after (board [0x1F] [] { base with a := 0x81 })
      accum = some (0x40, 0x10, 0xC001, 4) := by decide

/-- B7. -/
theorem test_rl_mHL :
    after (board [0xCB, 0x16] [(0xC100, 0x80)] { base with h := 0xC1, l := 0x00 })
      (fun t => (t.readKey 0xC100, t.cpu.f, t.cycles)) = some (0x00, 0x90, 16) := by decide

/-- B10. -/
theorem test_sra_A :
    after (board [0xCB, 0x2F] [] { base with a := 0x8A })
      accum = some (0xC5, 0x00, 0xC002, 8) := by decide

/-- B11: C is cleared. -/
theorem test_swap_A :
    after (board [0xCB, 0x37] [] { base with a := 0x00, f := 0x70 })
      accum = some (0x00, 0x80, 0xC002, 8) := by decide

/-- B15: C is kept. -/
theorem test_bit_0_mHL :
    after (board [0xCB, 0x46] [(0xC100, 0xFE)] { base with h := 0xC1, l := 0x00, f := 0x10 })
      (fun t => (t.readKey 0xC100, t.cpu.f, t.cycles)) = some (0xFE, 0xB0, 12) := by decide

/-- B16. -/
theorem test_res_7_mHL :
    after (board [0xCB, 0xBE] [(0xC100, 0xFF)] { base with h := 0xC1, l := 0x00, f := 0xF0 })
      (fun t => (t.readKey 0xC100, t.cpu.f, t.cycles)) = some (0x7F, 0xF0, 16) := by decide

/-- B17. -/
theorem test_set_3_mHL :
    after (board [0xCB, 0xDE] [(0xC100, 0x00)] { base with h := 0xC1, l := 0x00 })
      (fun t => (t.readKey 0xC100, t.cpu.f, t.cycles)) = some (0x08, 0x00, 16) := by decide

/-- J1. -/
theorem test_jr_e8 :
    after (board [0x18, 0x80] [] base)
      (fun t => (t.cpu.pc, t.cycles)) = some (0xBF82, 12) := by decide

/-- J3. -/
theorem test_jr_Z_not_taken :
    after (board [0x28, 0x10] [] base)
      (fun t => (t.cpu.pc, t.cycles)) = some (0xC002, 8) := by decide

/-- J4. -/
theorem test_jp_C_taken :
    after (board [0xDA, 0x34, 0x12] [] { base with f := 0x10 })
      (fun t => (t.cpu.pc, t.cycles)) = some (0x1234, 16) := by decide

/-- J7. -/
theorem test_call_NZ_taken :
    after (board [0xC4, 0x00, 0x20] [] base)
      (fun t => (t.cpu.pc, t.cpu.sp, t.readKey 0xCFFF, t.readKey 0xCFFE, t.cycles)) = some (0x2000, 0xCFFE, 0xC0, 0x03, 24) := by decide

/-- J9. -/
theorem test_ret_C_taken :
    after (board [0xD8] [(0xCFFE, 0x03), (0xCFFF, 0xC0)] { base with f := 0x10, sp := 0xCFFE })
      (fun t => (t.cpu.pc, t.cpu.sp, t.cycles)) = some (0xC003, 0xD000, 20) := by decide

/-- J11. -/
theorem test_reti :
    after (board [0xD9] [(0xCFFE, 0x00), (0xCFFF, 0x02)] { base with sp := 0xCFFE })
      (fun t => (t.cpu.pc, t.cpu.sp, t.cpu.ime)) = some (0x0200, 0xD000, true) := by decide

/-- J12. -/
theorem test_rst_38 :
    after (board [0xFF] [] base)
      (fun t => (t.cpu.pc, t.readKey 0xCFFF, t.readKey 0xCFFE, t.cycles)) = some (0x0038, 0xC0, 0x01, 16) := by decide

/-- K3. -/
theorem test_ei :
    after (board [0xFB] [] base)
      (fun t => (t.cpu.ime, t.cycles)) = some (true, 4) := by decide

/-- K5: the HALT bug in mode Skip2. -/
theorem test_halt_bug :
    after { board [0x76, 0x3C, 0x3C] [] { base with a := 0x00, f := 0xB0 } with irq := { req := 0x04, en := 0x04 } }
      (fun t => (t.cpu.pc, t.cpu.runState, t.cycles)) = some (0xC002, .running, 4) := by decide

/-- 1.8. -/
theorem test_halt :
    after { board [0x76, 0x00] [] base with irq := { req := 0x01, en := 0x00 } }
      (fun t => (t.cpu.pc, t.cpu.runState, t.cycles)) = some (0xC001, .halted, 4) := by decide

/-- I2. -/
theorem test_interrupt_priority :
    after { board [0x00] [] { base with ime := true } with irq := { req := 0x1E, en := 0x1F } }
      (fun t => (t.cpu.pc, t.irq.req, t.cpu.ime, t.readKey 0xCFFF, t.cycles)) = some (0x0048, 0x1C, false, 0xC0, 20) := by decide

/-- I9: the push overwrites IE. -/
theorem test_interrupt_push_over_IE :
    after { board [0x00] [] { base with pc := 0xC012, sp := 0x0001, ime := true } with irq := { req := 0x01, en := 0x01 } }
      (fun t => (t.cpu.pc, t.irq.en, t.cpu.sp)) = some (0x0040, 0x12, 0xFFFF) := by decide

/-- K7: an illegal byte's fault. -/
theorem test_illegal_byte : step (board [0xFD] [] base) = .fault (.illegalOpcode 0xC000 0xFD) := rfl

/-- K8: STOP's fault. -/
theorem test_stop : step (board [0x10, 0x00] [] base) = .fault (.unmodelled 0xC000 0x10) := rfl

/-! ## Devices and cartridge -/

/-- T7: TIMA overflows and reloads within one device step. -/
theorem test_timer_reload :
    let s := timerStep 48 { State.reset with
      irq := { req := 0x00, en := 0x00 }
      timer := { State.reset.timer with tima := 0xFE, tma := 0xAB, tac := 0x05 } }
    (s.timer.tima, s.irq.req, s.timer.timaAcc) = (0xAC, 0x04, 0) := by decide

/-- T10: DIV keeps its own count. -/
theorem test_divider : (timerStep 255 State.reset).timer.div = 0xAB ∧
    (timerStep 256 State.reset).timer.div = 0xAC ∧ (timerStep 256 State.reset).timer.divAcc = 0 := by decide

/-- D2: the copy comes with the 160th cycle. -/
theorem test_dma :
    let s := busWrite 0xFF46 0xC0 (board [0x5A] [] base)
    (dmaStep 159 s).dma.active = true ∧ (dmaStep 159 s).readKey 0xFE00 = 0x00 ∧
      (dmaStep 160 s).dma.active = false ∧ (dmaStep 160 s).readKey 0xFE00 = 0x5A := by decide

/-- The state after a PPU step, as the sequencer vectors tell it. -/
def sequencer (s : State) : PpuMode × Byte × Nat × Byte := (s.ppu.mode, s.ppu.ly, s.ppu.acc, s.irq.req)

/-- 1.5 and P2: the first line, and the compare request at line 1. -/
theorem test_ppu_line :
    let s : State := { State.reset with
      irq := { req := 0x00, en := 0x00 }, ppu := { Ppu.reset with lyc := 0x01, statEnables := 0x40 } }
    sequencer (ppuStep 80 s) = (.pixelTransfer, 0, 0, 0x00) ∧
      sequencer (ppuStep 455 s) = (.hBlank, 0, 203, 0x00) ∧
      sequencer (ppuStep 456 s) = (.oamSearch, 1, 0, 0x02) := by decide

/-- G1: the shades of the first two tiles of line 0. -/
theorem test_background_pixels :
    let s : State := { board [] [(0x8000, 0xFF), (0x8010, 0x0F), (0x8011, 0xF0), (0x9801, 0x01)] base with
      ppu := { Ppu.reset with bgp := 0xE4 } }
    ((s.lineShades 0).take 16).map (fun v => v.toNat) = [1, 1, 1, 1, 1, 1, 1, 1, 2, 2, 2, 2, 1, 1, 1, 1] := by
  decide

/-- G11: the entry of the lower X wins. -/
theorem test_sprite_pixels :
    let cells : List Host.Cell := [(0x8020, 0xFF), (0x8030, 0xFF), (0x8031, 0xFF), (0xFE00, 0x10),
      (0xFE01, 0x0A), (0xFE02, 0x02), (0xFE04, 0x10), (0xFE05, 0x09), (0xFE06, 0x03)]
    let s : State := gatherSprites { board [] cells base with
      ppu := { Ppu.reset with lcdc := 0x93, bgp := 0xE4, obp0 := 0xE4 } }
    ((s.lineShades 0).take 11).map (fun v => v.toNat) = [0, 3, 3, 3, 3, 3, 3, 3, 3, 1, 0] := by decide

/-- Variant A of 13: the bank written in two parts, and the bank read. -/
theorem test_variant_A :
    let s : State := { State.reset with cart := Cart.powerOn .A 0x100000 0 }
    let s := busWrite 0x4000 0x03 (busWrite 0x2000 0x00 (busWrite 0x4000 0x01 (busWrite 0x2000 0x1F s)))
    (s.cart.romBank.toNat, s.cart.effectiveRomBank) = (0x61, 33) := by decide

/-- Variant C of 13. -/
theorem test_variant_C :
    let s : State := { State.reset with cart := Cart.powerOn .C 0x800000 0 }
    let s := busWrite 0x2000 0x00 (busWrite 0x3000 0x01 (busWrite 0x2000 0xFF s))
    (s.cart.romBank.toNat, (busWrite 0x4000 0x1F s).cart.ramBank.toNat) = (0x101, 15) := by decide

/-- The parameters with a cost table that gives 100, 50 when not taken, and 7 after the prefix. -/
def slow : Params := { Params.default with
  cycles := ⟨Vector.replicate 256 100, Vector.replicate 256 50, Vector.replicate 256 7⟩ }

/-- R10: the costs are the session's table's: JR NZ taken and not, and a CB instruction. -/
theorem test_cycles_parameter :
    after { board [0x20, 0x10] [] { base with f := 0x00 } with params := slow } (fun t => t.cycles) = some 100 ∧
    after { board [0x20, 0x10] [] { base with f := 0x80 } with params := slow } (fun t => t.cycles) = some 50 ∧
    after { board [0xCB, 0x37] [] base with params := slow } (fun t => t.cycles) = some 7 := by decide

/-- R10, R50: a table of the session's own answers for the P1 lines. -/
theorem test_joypad_parameter :
    busRead 0xFF00 { State.reset with p1Select := 0x20, params := { Params.default with
      joypadRead := .table (Vector.replicate 1024 0x5) } } = 0xE5 ∧
    busRead 0xFF00 { State.reset with p1Select := 0x20, buttons := { Buttons.none with up := true, a := true } } =
      0xEB := by decide

/-- 1.3: read bits forced high. -/
theorem test_read_masks : busRead 0xFF10 (busWrite 0xFF10 0x00 State.reset) = 0x80 ∧
    busRead 0xFF07 (busWrite 0xFF07 0x05 State.reset) = 0xFD ∧ busRead 0xFF41 State.reset = 0x86 := by decide

/-- An image of the shortest length with the three header bytes given. -/
def image (cartType romSize ramSize : Byte) : List Byte :=
  List.replicate 0x147 0x00 ++ [cartType, romSize, ramSize] ++ List.replicate 6 0x00

/-- Arguments of a load with default parameters and all open values 0. -/
def loadArgs (im : Option (List Byte)) (overlay : Option (Vector Byte 256)) : LoadArgs where
  image := im
  overlay := overlay
  params := Params.default
  tables := HeaderTables.default
  values :=
    { ram := []
      obp0 := 0
      obp1 := 0
      bootRegs := ⟨0, 0, 0, 0, 0, 0, 0, 0, 0⟩
      bootIo := ⟨⟨0, 0⟩, 0, 0, 0, 0, 0, 0, 0, 0, 0, 0, 0, 0, 0, 0, Sound.reset, 0, 0, 0⟩ }

/-- What a load ends in: its fault, or none. -/
def loadFault (args : LoadArgs) : Option Fault :=
  match load args with
  | .ok _ => none
  | .error r => some r

/-- R100-R103: the load faults. -/
theorem test_load_faults :
    loadFault (loadArgs none none) = some .missingImage ∧
    loadFault (loadArgs (some [0x00]) none) = some (.truncatedHeader 1) ∧
    loadFault (loadArgs (some (image 0x04 0 0)) none) = some (.unsupportedCartType 0x04) ∧
    loadFault (loadArgs (some (image 0 0x09 0)) none) = some (.unsupportedRomSize 0x09) ∧
    loadFault (loadArgs (some (image 0 0 0x06)) none) = some (.unsupportedRamSize 0x06) ∧
    loadFault (loadArgs (some (image 0x1E 0x08 0x05)) none) = none := by decide

/-- R100 and R102: tables of the session's own replace the default ones. -/
theorem test_header_tables :
    let own : HeaderTables := { cartTypes := [(0x42, .C)], romSizes := [(0x07, 32768)], ramSizes := [(0x09, 512)] }
    let given : Byte → Byte → Byte → LoadArgs := fun t r m =>
      { loadArgs (some (image t r m)) none with tables := own }
    loadFault (given 0x42 0x07 0x09) = none ∧
    loadFault (given 0x00 0x07 0x09) = some (.unsupportedCartType 0x00) ∧
    loadFault (given 0x42 0x00 0x09) = some (.unsupportedRomSize 0x00) ∧
    loadFault (given 0x42 0x07 0x00) = some (.unsupportedRamSize 0x00) := by decide

/-- A table word placed after reset is what the next step runs: LD A,n8 with n8 = 0. -/
theorem test_withFetchWord :
    after (State.reset.withFetchWord 8 0x3E) (fun t => (t.cpu.a, t.cpu.pc)) = some (0x00, 0x0102) ∧
    after (State.reset.withFetchWord 16 0xCB37) (fun t => (t.cpu.a, t.cpu.pc)) = some (0x10, 0x0102) := by
  decide

/-! ## Witnesses -/

/-- A state about to run the code given, with the registers of `base`. -/
def ready (code : List Byte) : State := board code [] base

/-- The same with a CPU given and IF and IE set. -/
def signalled (c : Cpu) (req en : Byte) : State :=
  { board [0x00] [] c with irq := { req := req, en := en } }

/-- The default costs, the premise in the words of `Runs`. -/
theorem test_witness_Runs : (ready [0x00]).params.cycles = CycleTable.default := rfl

theorem test_witness_DecodeInvertsEncode : (Instr.ld_BC_n16 0xFFFF).wellFormed = true ∧
    (Instr.stop 0x00).wellFormed = true := by decide

theorem test_witness_EncodeInvertsDecode : decode [0xCB, 0x7C, 0x55] = .ok (.bit_7_H, [0x55]) ∧
    decode [0xCB] = .ok (.prefix_CB, []) := by decide

theorem test_witness_StepRunsDecodedInstruction :
    let s := ready [0x06, 0x12]
    s.fault = none ∧ s.cpu.runState = .running ∧ ¬(s.cpu.ime = true ∧ interruptPending s) ∧
      decode [busRead (fetchAt s 0) (overlaySeen s), busRead (fetchAt s 1) (overlaySeen s),
        busRead (fetchAt s 2) (overlaySeen s)] = .ok (.ld_B_n8 0x12, [0x00]) := by
  unfold interruptPending; decide

theorem test_witness_HaltedStepWaits :
    let asleep := signalled { base with runState := .halted } 0x1F 0x00
    let woken := signalled { base with runState := .halted } 0x10 0x10
    (asleep.fault = none ∧ asleep.cpu.runState = .halted ∧ ¬interruptPending asleep) ∧
      woken.fault = none ∧ woken.cpu.runState = .halted ∧ interruptPending woken := by
  unfold interruptPending; decide

theorem test_witness_InterruptEntry : ∀ i ∈ [0, 4],
    let s := signalled { base with ime := true } (if i = 0 then 0x1F else 0x10) 0x1F
    s.fault = none ∧ s.cpu.runState = .running ∧ s.cpu.ime = true ∧ i < 5 ∧
      s.irq.req.getLsbD i = true ∧ s.irq.en.getLsbD i = true ∧
      ∀ j < i, ¬(s.irq.req.getLsbD j = true ∧ s.irq.en.getLsbD j = true) := by decide

theorem test_witness_FaultEndsTheRun :
    (∃ s : State, s.fault = some .missingImage) ∧
      (ready [0xD3]).fault = none ∧ step (ready [0xD3]) = .fault (.illegalOpcode 0xC000 0xD3) :=
  ⟨⟨{ ready [] with fault := some .missingImage }, rfl⟩, rfl, rfl⟩

theorem test_witness_OverlayUnmapsAtTheEntryPoint :
    (∃ t, step { ready [0x00] with overlayActive := true } = .next t) ∧
      ∃ t, step { board [] [] { base with pc := 0x0100 } with overlayActive := true } = .next t :=
  ⟨⟨_, rfl⟩, ⟨_, rfl⟩⟩

theorem test_witness_EveryInstructionCompletesAtItsCost :
    ((0x11 : Byte) ≠ 0x10 ∧ (0x11 : Byte) ∉ illegalBytes ∧
      decode [0x11, 0x34, 0x12] = .ok (.ld_DE_n16 0x1234, [])) ∧
    ((0xCB : Byte) ≠ 0x10 ∧ (0xCB : Byte) ∉ illegalBytes ∧
      decode [0xCB, 0xFF, 0x12] = .ok (.set_7_A, [0x12])) ∧
    (ready []).params.cycles = CycleTable.default ∧
    (∃ s : State, s.cpu.runState = .running ∧ s.cpu.ime = true ∧ interruptPending s) ∧
    (signalled { base with runState := .halted } 0x00 0x00).cpu.runState = .halted :=
  ⟨by decide, by decide, rfl, ⟨signalled { base with ime := true } 0x01 0x01, by unfold interruptPending; decide⟩, rfl⟩

theorem test_witness_EveryStepKeepsTheInvariant :
    Inv (ready [0x04]) ∧ ∃ t, step (ready [0x04]) = .next t :=
  ⟨⟨by decide, by decide, by decide, by decide, by decide, by decide, by decide, by decide, by decide,
    trivial⟩, ⟨_, rfl⟩⟩

/-- A load without a fault gives a state. -/
theorem loads {args : LoadArgs} (h : loadFault args = none) : ∃ s, load args = .ok s := by
  unfold loadFault at h
  cases hl : load args with
  | ok s => exact ⟨s, rfl⟩
  | error r => rw [hl] at h; cases h

/-- It starts a session. -/
theorem starts {args : LoadArgs} (h : loadFault args = none) : ∃ x, startSession args = .ok x := by
  obtain ⟨s, hs⟩ := loads h
  exact ⟨{ args := args, state := s }, by unfold startSession; rw [hs]⟩

theorem test_witness_EverySessionKeepsTheInvariant :
    ∃ x, startSession (loadArgs (some (image 0x03 0x01 0x02)) none) = .ok x := starts (by decide)

theorem test_witness_NoStepChangesRomOrSession : ∃ t, step (ready [0x22]) = .next t := ⟨_, rfl⟩

theorem test_witness_InstructionsLeaveDevicesAlone :
    ∃ t, exec (.ldh_ma8_A 0x46) (ready [0xE0, 0x46]) = .next t := ⟨_, rfl⟩

theorem test_witness_OnlyEiDiAndRetiChangeIme :
    (∃ t, exec .di (signalled { base with ime := true } 0 0) = .next t ∧ t.cpu.ime ≠ true) ∧
      (∃ t, exec .ei (ready [0xFB]) = .next t ∧ t.cpu.ime ≠ (ready [0xFB]).cpu.ime) ∧
      ∃ t, exec .reti (ready [0xD9]) = .next t ∧ t.cpu.ime ≠ (ready [0xD9]).cpu.ime :=
  ⟨⟨_, rfl, by decide⟩, ⟨_, rfl, by decide⟩, ⟨_, rfl, by decide⟩⟩

theorem test_witness_DelayedEiCommits :
    (∃ t, instrStep (board [0xF3] [] { base with eiPending := true }) = .next t) ∧
      ∃ t, instrStep (board [0x00] [] { base with eiPending := true }) = .next t :=
  ⟨⟨_, rfl⟩, ⟨_, rfl⟩⟩

theorem test_witness_DevicesRaiseNoSerialRequest :
    (signalled base 0x18 0x00).irq.req.getLsbD 3 = true := by decide

/-- A store, a taken CALL, a store of two bytes and a read-modify-write found through the bare prefix, whose
addresses stand at the edge of the control ranges; a form that stores nothing; an entry's pushes there. -/
theorem test_witness_BankStateChangesOnlyByControlWrites :
    let s := board [0xCB, 0xC6] [] { base with h := 0x80, l := 0x00, sp := 0x8002 }
    storeAddresses (.ld_mHL_n8 0x12) s = [0x8000] ∧
    storeAddresses (.call_NZ_a16 0x1234) s = [0x8001, 0x8000] ∧
    storeAddresses (.ld_ma16_SP 0x8000) s = [0x8000, 0x8001] ∧
    storeAddresses .prefix_CB s = [0x8000] ∧ storeAddresses .ld_A_A s = [] ∧
    s.cpu.sp - 1 = 0x8001 ∧ s.cpu.sp - 2 = 0x8000 ∧
    0x8000 ≤ (0x8000 : Word).toNat ∧ 0x8000 ≤ (0x8001 : Word).toNat ∧
    (signalled { base with runState := .halted } 0x00 0x00).cpu.runState = .halted :=
  ⟨rfl, rfl, rfl, rfl, rfl, rfl, rfl, by decide, by decide, rfl⟩

theorem test_witness_BankState_exec :
    (∃ t, exec .prefix_CB (board [0xCB, 0xC6] [] { base with h := 0x80, l := 0x00 }) = .next t) ∧
      ∃ t, cpuStep (signalled { base with runState := .halted } 0x00 0x00) = .next t := ⟨⟨_, rfl⟩, ⟨_, rfl⟩⟩

/-- The edges of the regions, each met in a state that takes its clause. -/
theorem test_witness_BusDispatch :
    (({ ready [] with overlayActive := true }.overlayActive = true ∧ (0x00FF : Word).toNat ≤ 0xFF)) ∧
    (¬((ready []).overlayActive = true ∧ (0x0000 : Word).toNat ≤ 0xFF) ∧ (0x3FFF : Word).toNat ≤ 0x3FFF) ∧
    (0x4000 ≤ (0x4000 : Word).toNat ∧ (0x7FFF : Word).toNat ≤ 0x7FFF ∧ (ready []).cart.variant = .none) ∧
    (∀ a ∈ ([0x8000, 0x9FFF, 0xC000, 0xDFFF, 0xFE00, 0xFE9F, 0xFF80, 0xFFFE] : List Word),
      (0x8000 ≤ a.toNat ∧ a.toNat ≤ 0x9FFF) ∨ (0xC000 ≤ a.toNat ∧ a.toNat ≤ 0xDFFF) ∨
        (0xFE00 ≤ a.toNat ∧ a.toNat ≤ 0xFE9F) ∨ (0xFF80 ≤ a.toNat ∧ a.toNat ≤ 0xFFFE)) ∧
    (∀ a ∈ ([0xE000, 0xFDFF] : List Word), 0xE000 ≤ a.toNat ∧ a.toNat ≤ 0xFDFF) ∧
    (∀ a ∈ ([0xFEA0, 0xFEFF] : List Word), 0xFEA0 ≤ a.toNat ∧ a.toNat ≤ 0xFEFF) ∧
    (0xFFFF : Word).toNat = 0xFFFF := by simp [ready, board, State.reset, Cart.powerOn]

theorem test_witness_IoReadTable :
    (∀ a ∈ ([0xFF30, 0xFF3F] : List Word), 0xFF30 ≤ a.toNat ∧ a.toNat ≤ 0xFF3F) ∧
    ∀ a ∈ ([0xFF03, 0xFF08, 0xFF0E, 0xFF15, 0xFF1F, 0xFF27, 0xFF2F, 0xFF4C, 0xFF7F] : List Word),
      isHole a := by simp [isHole]

theorem test_witness_IoWriteTable :
    (∀ a ∈ ([0xFF30, 0xFF3F] : List Word), 0xFF30 ≤ a.toNat ∧ a.toNat ≤ 0xFF3F) ∧
    ∀ a ∈ ([0xFF03, 0xFF08, 0xFF0E, 0xFF15, 0xFF1F, 0xFF27, 0xFF2F, 0xFF4C, 0xFF7F] : List Word),
      isHole a := by simp [isHole]

theorem test_witness_SoundRegisterMasks :
    ((0xFF10, 0x80) : Word × Byte) ∈ soundMasks ∧ ((0xFF25, 0x00) : Word × Byte) ∈ soundMasks ∧
      (0xFF25 : Word) ≠ 0xFF10 := by decide

/-- Storage seen at one address and at two, a byte of enabled cartridge RAM, and an address without any. -/
theorem test_witness_StoredBytesReadBack :
    let s : State := { ready [] with cart := Cart.powerOn .none 0x8000 0x2000 }
    storeKey 0x8000 s = some 0x8000 ∧ loadKey 0x8000 s = some 0x8000 ∧ loadKey 0x8001 s ≠ some 0x8000 ∧
    storeKey 0xFDFF s = some 0xDDFF ∧ loadKey 0xDDFF s = some 0xDDFF ∧ storeKey 0xDDFF s = some 0xDDFF ∧
    storeKey 0xBFFF s = some 0x11FFF ∧ storeKey 0xFF3F s = some 0xFF3F ∧
    storeKey 0xFFFF s = none ∧ storeKey 0x7FFF s = none ∧ storeKey 0xFEA0 s = none := by decide

theorem test_witness_CartridgeRamWindow :
    let none' : State := ready []
    let plain : State := { none' with cart := Cart.powerOn .none 0x8000 0x2000 }
    let enabled : State := { none' with cart := { Cart.powerOn .A 0x8000 0x800 with ramEnable := true } }
    let disabled : State := { none' with cart := Cart.powerOn .A 0x8000 0x800 }
    (0xA000 ≤ (0xA000 : Word).toNat ∧ (0xBFFF : Word).toNat ≤ 0xBFFF) ∧
    (0 < plain.cart.ramSize ∧ (plain.cart.variant = .none ∨ plain.cart.ramEnable = true)) ∧
    (0 < enabled.cart.ramSize ∧ (enabled.cart.variant = .none ∨ enabled.cart.ramEnable = true)) ∧
    ¬(0 < disabled.cart.ramSize ∧ (disabled.cart.variant = .none ∨ disabled.cart.ramEnable = true)) ∧
    ¬(0 < none'.cart.ramSize ∧ (none'.cart.variant = .none ∨ none'.cart.ramEnable = true)) := by decide

/-- The edges of the four control ranges, with a cartridge of each variant in each bank mode, and the values
on either side of the clauses of Variant B. -/
theorem test_witness_BankControllerWrites :
    (∀ v ∈ [Variant.A, .B, .C], ∃ s : State, s.cart.variant = v ∧ s.cart.variant ≠ .none ∧ s.cart.bankMode = 0) ∧
    (∃ s : State, s.cart.variant = .A ∧ s.cart.bankMode = 1) ∧
    ((0x0000 : Word).toNat ≤ 0x1FFF ∧ (0x1FFF : Word).toNat ≤ 0x1FFF) ∧
    (∀ a ∈ ([0x2000, 0x3FFF] : List Word), 0x2000 ≤ a.toNat ∧ a.toNat ≤ 0x3FFF) ∧
    (∀ a ∈ ([0x2000, 0x2FFF] : List Word), 0x2000 ≤ a.toNat ∧ a.toNat ≤ 0x2FFF) ∧
    (∀ a ∈ ([0x3000, 0x3FFF] : List Word), 0x3000 ≤ a.toNat ∧ a.toNat ≤ 0x3FFF) ∧
    (∀ a ∈ ([0x4000, 0x5FFF] : List Word), 0x4000 ≤ a.toNat ∧ a.toNat ≤ 0x5FFF) ∧
    (∀ a ∈ ([0x6000, 0x7FFF] : List Word), 0x6000 ≤ a.toNat ∧ a.toNat ≤ 0x7FFF) ∧
    (0x07 : Byte).toNat ≤ 7 ∧ 8 ≤ (0x08 : Byte).toNat := by
  refine ⟨fun v hv => ⟨{ ready [] with cart := Cart.powerOn v 0x8000 0 }, rfl, ?_, rfl⟩,
    ⟨{ ready [] with cart := { Cart.powerOn .A 0x8000 0 with bankMode := 1 } }, rfl, rfl⟩, by simp⟩
  revert v; decide

theorem test_witness_ByteLoads : R8.B ≠ .mHL ∧ R8.A ≠ .mHL := by decide

/-- A byte of work RAM under HL, a stack in work RAM, a condition that holds. -/
theorem test_witness_StoresChangeOnlyTheirBytes :
    let s := board [] [] { base with h := 0xC1, l := 0x00 }
    R8.B ≠ .mHL ∧ condition .NZ s = true ∧ storeKey (word s.cpu.h s.cpu.l) s = some 0xC100 ∧
    storeKey 0xC101 s ≠ some 0xC100 ∧
    storeKey (s.cpu.sp - 1) s = some 0xCFFF ∧ storeKey (s.cpu.sp - 2) s = some 0xCFFE ∧
    (0xCFFF : Nat) ≠ 0xCFFE ∧ loadKey 0xCFFD s ≠ some 0xCFFF ∧ loadKey 0xCFFD s ≠ some 0xCFFE := by decide

theorem test_witness_PopGivesBackWhatPushStored :
    let s := ready [0xC5]
    storeKey (s.cpu.sp - 1) s = some 0xCFFF ∧ storeKey (s.cpu.sp - 2) s = some 0xCFFE ∧
      (0xCFFF : Nat) ≠ 0xCFFE := by decide

theorem test_witness_AccumulatorAdjustments : flagN (ready [0x27]) = false ∧
    flagN (board [0x27] [] { base with f := 0x40 }) = true := by decide

theorem test_witness_DaaCorrectsDecimalArithmetic :
    (0 < 100 ∧ 99 < 100 ∧ (board [] [] { base with a := 0x00 }).cpu.a = bcd 0) ∧
      (board [] [] { base with a := 0x99 }).cpu.a = bcd 99 := by decide

theorem test_witness_ReturnsUndoCallsAndInterrupts :
    let s := signalled { base with ime := true } 0x1F 0x1F
    storeKey (s.cpu.sp - 1) s = some 0xCFFF ∧ storeKey (s.cpu.sp - 2) s = some 0xCFFE ∧
      (0xCFFF : Nat) ≠ 0xCFFE ∧ s.cpu.runState = .running ∧ s.cpu.ime = true ∧ interruptPending s := by
  unfold interruptPending; decide

/-- HALT with nothing pending, and pending in each mode; EI at once and delayed. -/
theorem test_witness_CpuControl :
    let quiet := signalled base 0x1F 0x00
    let mode : HaltBugMode → State := fun m =>
      { signalled base 0x01 0x01 with params := { Params.default with haltBugMode := m, eiDelay := true } }
    ¬(quiet.cpu.ime = false ∧ interruptPending quiet) ∧ quiet.params.eiDelay = false ∧
    ∀ m ∈ [HaltBugMode.skip2, .replay, .ignore],
      (mode m).cpu.ime = false ∧ interruptPending (mode m) ∧ (mode m).params.haltBugMode = m ∧
        (mode m).params.eiDelay = true := by unfold interruptPending; decide

theorem test_witness_FaultingBytesAndThePrefix :
    ((0xD3, .illegal_D3) : Byte × Instr) ∈ illegalInstrs ∧
      ((0xFD, .illegal_FD) : Byte × Instr) ∈ illegalInstrs := by decide

/-- The state with TAC given. -/
def timing (tac : Byte) : State := { ready [] with timer := { State.reset.timer with tac := tac } }

theorem test_witness_TimersRunTheSpecsLoops : (timing 0x05).timer.tac.getLsbD 2 = true ∧
    (timing 0x01).timer.tac.getLsbD 2 = false := by decide

/-- No transfer, one that goes on, and one that ends on its last cycle. -/
theorem test_witness_DmaCopiesAtTheEndOfTheCountdown :
    let s : State := { ready [] with dma := { reg := 0xC0, active := true, page := 0xC0, remaining := 160 } }
    (ready []).dma.active = false ∧ s.dma.active = true ∧ 159 < s.dma.remaining ∧ s.dma.remaining ≤ 160 := by
  decide

/-- The state with the PPU's mode and line given. -/
def onLine (m : PpuMode) (n : Byte) : State := { ready [] with ppu := { Ppu.reset with mode := m, ly := n } }

theorem test_witness_PpuModeTransitions :
    (onLine .oamSearch 0).ppu.mode = .oamSearch ∧ (onLine .pixelTransfer 143).ppu.mode = .pixelTransfer ∧
    ((onLine .hBlank 143).ppu.mode = .hBlank ∧ (onLine .hBlank 143).ppu.ly + 1 = 144) ∧
    ((onLine .hBlank 142).ppu.mode = .hBlank ∧ (onLine .hBlank 142).ppu.ly + 1 ≠ 144) ∧
    ((onLine .vBlank 152).ppu.mode = .vBlank ∧ (onLine .vBlank 152).ppu.ly.toNat < 153) ∧
    ((onLine .vBlank 153).ppu.mode = .vBlank ∧ 153 ≤ (onLine .vBlank 153).ppu.ly.toNat) := by decide

theorem test_witness_PpuStepRunsTheSpecsLoop : (ready []).ppu.lcdc.getLsbD 7 = true ∧
    { ready [] with ppu := { Ppu.reset with lcdc := 0x11 } }.ppu.lcdc.getLsbD 7 = false := by decide

theorem test_witness_FramePositionAdvancesWithTheCycles :
    ∀ s ∈ [onLine .oamSearch 0, onLine .hBlank 143, onLine .vBlank 153],
      s.ppu.lcdc.getLsbD 7 = true ∧ ppuAccBounded s ∧ scanlineInRange s := by decide

theorem test_witness_VBlankIsRequestedAtLine144 :
    let s := onLine .hBlank 143
    s.ppu.lcdc.getLsbD 7 = true ∧ ppuAccBounded s ∧ scanlineInRange s ∧
      0 < 204 ∧ 204 ≤ 204 ∧ (framePosition s + 204) % 70224 = 65664 := by decide

theorem test_witness_PixelsOfALine : 143 < 144 ∧ frameShaped (ready []) ∧ 159 < 160 := by decide

theorem test_witness_HostActions : Button.a ≠ .b ∧
    ∃ x, startSession (loadArgs (some (image 0 0 0)) none) = .ok x :=
  ⟨by decide, starts (by decide)⟩

/-- An image for each clause of the load faults: the two lengths at the edge, and each header byte in and out
of its table. -/
theorem test_witness_LoadFaults :
    let t := (loadArgs none none).tables
    let good := image 0x1E 0x08 0x05
    (loadArgs none none).image = none ∧ (image 0 0 0).length = 0x150 ∧
    ((image 0 0 0).take 0x14F).length < 0x150 ∧
    (¬Unlisted t.cartTypes (imageByte good 0x147) ∧ ¬Unlisted t.romSizes (imageByte good 0x148) ∧
      ¬Unlisted t.ramSizes (imageByte good 0x149)) ∧
    Unlisted t.cartTypes (imageByte (image 0x04 0x08 0x05) 0x147) ∧
    Unlisted t.romSizes (imageByte (image 0x1E 0x09 0x05) 0x148) ∧
    Unlisted t.ramSizes (imageByte (image 0x1E 0x08 0x06) 0x149) := by
  unfold Unlisted; decide

theorem test_witness_LoadedCartridge :
    (loadArgs none none).tables = HeaderTables.default ∧
    (∃ s, load (loadArgs (some (image 0x1E 0x00 0x05)) none) = .ok s) ∧
      ∃ s, load (loadArgs (some (image 0 0 0)) (some (Vector.replicate 256 0x31))) = .ok s :=
  ⟨rfl, loads (by decide), loads (by decide)⟩

theorem test_witness_PowerOnState :
    (loadArgs none none).params.joypadRead = .matrix ∧
    (∃ s, load (loadArgs (some (image 0 0 0)) none) = .ok s) ∧
      ∃ s, load (loadArgs (some (image 0 0 0)) (some (Vector.replicate 256 0x31))) = .ok s :=
  ⟨rfl, loads (by decide), loads (by decide)⟩

theorem test_witness_ResultsDoNotDependOnCycles :
    (∃ t, exec .ei (ready [0xFB]) = .next t) ∧
    (∃ r, exec (.stop 0x00) (ready [0x10]) = .fault r) ∧
    (∃ t, cpuStep (ready [0x22]) = .next t) ∧ ∃ r, cpuStep (ready [0xD3]) = .fault r :=
  ⟨⟨_, rfl⟩, ⟨_, rfl⟩, ⟨_, rfl⟩, ⟨_, rfl⟩⟩

end Sys2Proof.Tests
end

section
/-! SUPPORT. What a CPU step and a whole step do around an instruction (R401-R404): an equation for each case
of `cpuStep`, and the inversion of a step that goes on. -/

namespace Sys2Proof.Machine

/-- The overlay check can unmap the overlay and does nothing else (R96). -/
theorem overlayCheck_eq (s : State) :
    overlayCheck s = { s with overlayActive := (overlayCheck s).overlayActive } := by
  unfold overlayCheck
  split <;> rfl

@[simp] theorem overlayCheck_cpu (s : State) : (overlayCheck s).cpu = s.cpu := by
  unfold overlayCheck
  split <;> rfl

@[simp] theorem takesInterrupt_overlayCheck (s : State) :
    (overlayCheck s).takesInterrupt = s.takesInterrupt := by
  unfold overlayCheck
  split <;> rfl

/-- The commit of a delayed EI changes the CPU alone (R406). -/
theorem commitEI_eq (before : Bool) (s : State) :
    commitEI before s = { s with cpu := (commitEI before s).cpu } := by
  unfold commitEI
  split <;> rfl

/-- A halted step changes the CPU and the reported cost alone (R402). -/
theorem haltedStep_eq (s : State) :
    haltedStep s = { s with cpu := (haltedStep s).cpu, cycles := 4 } := by
  unfold haltedStep
  split <;> rfl

/-- A CPU step in the Halted state (R402). -/
theorem cpuStep_halted {s : State} (h : s.cpu.runState = .halted) :
    cpuStep s = .next (haltedStep (overlayCheck s)) := by
  simp only [cpuStep, cpuStepBody, overlayCheck_cpu, h]

/-- A CPU step that services an interrupt (R403). -/
theorem cpuStep_service {s : State} (h : s.cpu.runState = .running) (hi : s.takesInterrupt = true) :
    cpuStep s = .next (serviceStep (overlayCheck s)) := by
  simp only [cpuStep, cpuStepBody, overlayCheck_cpu, h, takesInterrupt_overlayCheck, hi, if_true]

/-- A CPU step that executes an instruction (R404). -/
theorem cpuStep_instr {s : State} (h : s.cpu.runState = .running) (hi : s.takesInterrupt = false) :
    cpuStep s = instrStep (overlayCheck s) := by
  simp only [cpuStep, cpuStepBody, overlayCheck_cpu, h, takesInterrupt_overlayCheck, hi, if_false,
    Bool.false_eq_true]

/-- Everything a CPU step that goes on can be (R402-R404): a halted step, an interrupt entry, or an instruction
with the commit of a delayed EI, each after the overlay check. -/
theorem cpuStep_cases {s t : State} (h : cpuStep s = .next t) :
    (s.cpu.runState = .halted ∧ t = haltedStep (overlayCheck s)) ∨
    (s.cpu.runState = .running ∧ s.takesInterrupt = true ∧ t = serviceStep (overlayCheck s)) ∨
    (s.cpu.runState = .running ∧ s.takesInterrupt = false ∧
      ∃ u, exec (fetchInstr (overlayCheck s)) (overlayCheck s) = .next u ∧
        t = commitEI s.cpu.eiPending u) := by
  cases hr : s.cpu.runState
  case halted =>
    rw [cpuStep_halted hr] at h
    cases h
    exact .inl ⟨rfl, rfl⟩
  case running =>
    cases hi : s.takesInterrupt
    · rw [cpuStep_instr hr hi, instrStep, overlayCheck_cpu] at h
      cases he : exec (fetchInstr (overlayCheck s)) (overlayCheck s) <;> rw [he] at h <;> cases h
      exact .inr (.inr ⟨rfl, rfl, _, rfl, rfl⟩)
    · rw [cpuStep_service hr hi] at h
      cases h
      exact .inr (.inl ⟨rfl, rfl, rfl⟩)

/-- A step that goes on is, with no fault recorded, a CPU step that goes on and then the devices (R401). -/
theorem step_cases {s t : State} (h : step s = .next t) :
    s.fault = none ∧ ∃ u, cpuStep s = .next u ∧ t = deviceStep u := by
  unfold step sysStep at h
  cases hf : s.fault with
  | some r =>
    rw [hf] at h
    cases h
  | none =>
    rw [hf] at h
    cases hc : cpuStep s <;> simp only [hc] at h <;> cases h
    exact ⟨rfl, _, rfl, rfl⟩

end Sys2Proof.Machine
end

section
/-! What no step changes (R10, R32, R59, R81): one relation of two states, kept by every part of a step. -/

namespace Sys2Proof.Machine

/-- `t` has what no step may change as `s` has it: ROM and the overlay, the header's facts, the parameters, the
buttons and the recorded fault (R10, R32, R59, R81). -/
structure KeepsSession (s t : State) : Prop where
  bytes : ∀ k, k < 0x8000 ∨ romBase ≤ k → t.readKey k = s.readKey k
  variant : t.cart.variant = s.cart.variant
  romSize : t.cart.romSize = s.cart.romSize
  ramSize : t.cart.ramSize = s.cart.ramSize
  params : t.params = s.params
  buttons : t.buttons = s.buttons
  fault : t.fault = s.fault

theorem KeepsSession.trans {s t u : State} (h : KeepsSession s t) (h' : KeepsSession t u) :
    KeepsSession s u where
  bytes k hk := (h'.bytes k hk).trans (h.bytes k hk)
  variant := h'.variant.trans h.variant
  romSize := h'.romSize.trans h.romSize
  ramSize := h'.ramSize.trans h.ramSize
  params := h'.params.trans h.params
  buttons := h'.buttons.trans h.buttons
  fault := h'.fault.trans h.fault

/-- A change of other fields keeps the session. -/
theorem KeepsSession.of_eq {s t : State} (hm : t.mem = s.mem) (hc : t.cart = s.cart)
    (hp : t.params = s.params) (hb : t.buttons = s.buttons) (hf : t.fault = s.fault) :
    KeepsSession s t where
  bytes k _ := by rw [State.readKey, hm]; rfl
  variant := by rw [hc]
  romSize := by rw [hc]
  ramSize := by rw [hc]
  params := hp
  buttons := hb
  fault := hf

/-- A bus write stores under no key of ROM or the overlay, and a control write moves banks alone (R81, R91). -/
theorem busWrite_keepsSession (a : Word) (v : Byte) (s : State) : KeepsSession s (busWrite a v s) := by
  have hc : (busWrite a v s).cart.variant = s.cart.variant ∧
      (busWrite a v s).cart.romSize = s.cart.romSize ∧ (busWrite a v s).cart.ramSize = s.cart.ramSize := by
    rw [busWrite_cart]
    split
    · exact control_frame _ a v s.cart
    · exact ⟨rfl, rfl, rfl⟩
  obtain ⟨hv, hrom, hram⟩ := hc
  refine ⟨fun k hk => ?_, hv, hrom, hram, busWrite_params a v s, busWrite_buttons a v s, busWrite_fault a v s⟩
  have hne : storeKey a s ≠ some k := fun h => by
    have := storeKey_range h
    omega
  rw [readKey_busWrite, if_neg hne]

theorem Writes.keepsSession {s t : State} (h : Writes s t) : KeepsSession s t :=
  h.induct (P := KeepsSession s) (fun a v u hu => hu.trans (busWrite_keepsSession a v u))
    (.of_eq rfl rfl rfl rfl rfl)

/-- An instruction is bus writes and a new CPU and cost. -/
theorem exec_keepsSession {i : Instr} {s t : State} (h : exec i s = .next t) : KeepsSession s t := by
  obtain ⟨u, hw, ht, _⟩ := exec_effect h
  rw [ht]
  exact hw.keepsSession.trans (.of_eq rfl rfl rfl rfl rfl)

theorem push16_keepsSession (v : Word) (s : State) : KeepsSession s (push16 v s) := by
  obtain ⟨u, hw, hu⟩ := push16_eq_writes v s
  rw [hu]
  exact hw.keepsSession.trans (.of_eq rfl rfl rfl rfl rfl)

/-- Interrupt entry clears a request and IME, pushes the PC and moves it (R412). -/
theorem serviceStep_keepsSession (s : State) : KeepsSession s (serviceStep s) := by
  have hclear : KeepsSession s ((s.clearIF (lowestBit s.pendingBits)).setIME false) :=
    .of_eq rfl rfl rfl rfl rfl
  exact (hclear.trans (push16_keepsSession s.cpu.pc _)).trans (.of_eq rfl rfl rfl rfl rfl)

theorem cpuStep_keepsSession {s t : State} (h : cpuStep s = .next t) : KeepsSession s t := by
  have ho : KeepsSession s (overlayCheck s) := by
    rw [overlayCheck_eq]; exact .of_eq rfl rfl rfl rfl rfl
  refine ho.trans ?_
  rcases cpuStep_cases h with ⟨_, rfl⟩ | ⟨_, _, rfl⟩ | ⟨_, _, u, hu, rfl⟩
  · rw [haltedStep_eq]; exact .of_eq rfl rfl rfl rfl rfl
  · exact serviceStep_keepsSession _
  · rw [commitEI_eq]
    exact (exec_keepsSession hu).trans (.of_eq rfl rfl rfl rfl rfl)

/-- The devices write no byte but OAM's, and that by DMA (R401, R436). -/
theorem deviceStep_keepsSession (s : State) : KeepsSession s (deviceStep s) := by
  have htimer : KeepsSession s (timerStep s.cycles s) := by
    obtain ⟨_, _, _, _, _, _, h⟩ := timerStep_eq s.cycles s
    rw [h]; exact .of_eq rfl rfl rfl rfl rfl
  have hdma (u : State) : KeepsSession u (dmaStep s.cycles u) := by
    obtain ⟨_, m, h, _, hread, _⟩ := dmaStep_eq s.cycles u
    rw [h]
    exact ⟨fun k hk => hread k (by unfold romBase at hk; omega), rfl, rfl, rfl, rfl, rfl, rfl⟩
  have hppu (u : State) : KeepsSession u (ppuStep s.cycles u) := by
    obtain ⟨_, _, h, _⟩ := ppuStep_effect s.cycles u
    rw [h]; exact .of_eq rfl rfl rfl rfl rfl
  exact (htimer.trans (hdma _)).trans (hppu _)

/-- Settles O15: the CPU step keeps the session, whichever of its cases it is, and so do the devices. -/
theorem noStepChangesRomOrSession : Obligations.NoStepChangesRomOrSession := by
  intro s t h
  obtain ⟨hf, u, hu, rfl⟩ := step_cases h
  have hk := (cpuStep_keepsSession hu).trans (deviceStep_keepsSession u)
  exact ⟨hk.bytes, hk.variant, hk.romSize, hk.ramSize, hk.params, hk.buttons, hk.fault.trans hf⟩

end Sys2Proof.Machine
end

section
/-! The cost of every instruction (R530): what the selecting bytes fix of an instruction's form, what the form
costs, and that the session's table gives the same. -/

namespace Sys2Proof.Machine

open Sys2Proof.Claims

/-! ## The cost of a form -/

/-- The byte that selects a form: the instruction's first byte, or the one after 0xCB (R150-R155). -/
def Form.opcode : Form → Byte
  | .loadR8 d r => opcodeByte 1 d.code r.code
  | .loadN8 d _ => opcodeByte 0 d.code 6
  | .loadMem m => opcodeByte 0 (2 * m.code + 1) 2
  | .storeMem m => opcodeByte 0 (2 * m.code) 2
  | .loadN16 rr _ => opcodeByte 0 (2 * rr.code) 1
  | .storeSP _ => 0x08
  | .loadSPHL => 0xF9
  | .push rr => opcodeByte 3 (2 * rr.code) 5
  | .pop rr => opcodeByte 3 (2 * rr.code) 1
  | .loadHLSP _ => 0xF8
  | .aluR8 op r => opcodeByte 2 op.code r.code
  | .aluN8 op _ => opcodeByte 3 op.code 6
  | .incR8 r => opcodeByte 0 r.code 4
  | .decR8 r => opcodeByte 0 r.code 5
  | .decimalAdjust => 0x27
  | .complementA => 0x2F
  | .setCarry => 0x37
  | .complementCarry => 0x3F
  | .addHL rr => opcodeByte 0 (2 * rr.code + 1) 1
  | .incR16 rr => opcodeByte 0 (2 * rr.code) 3
  | .decR16 rr => opcodeByte 0 (2 * rr.code + 1) 3
  | .addSP _ => 0xE8
  | .rotateA op => opcodeByte 0 op.code 7
  | .rotateR8 op r => opcodeByte 0 op.code r.code
  | .testBitR8 u r => opcodeByte 1 u.code r.code
  | .resetBitR8 u r => opcodeByte 2 u.code r.code
  | .setBitR8 u r => opcodeByte 3 u.code r.code
  | .jump _ => 0xC3
  | .jumpIf c _ => opcodeByte 3 c.code 2
  | .jumpHL => 0xE9
  | .jumpRel _ => 0x18
  | .jumpRelIf c _ => opcodeByte 0 (4 + c.code) 0
  | .call _ => 0xCD
  | .callIf c _ => opcodeByte 3 c.code 4
  | .ret => 0xC9
  | .retIf c => opcodeByte 3 c.code 0
  | .retI => 0xD9
  | .restart t => opcodeByte 3 t.code 7
  | .nop => 0x00
  | .halt => 0x76
  | .disableInterrupts => 0xF3
  | .enableInterrupts => 0xFB
  | .prefixCB => 0xCB
  | .loadHigh _ => 0xF0
  | .storeHigh _ => 0xE0
  | .loadHighC => 0xF2
  | .storeHighC => 0xE2
  | .loadAbs _ => 0xFA
  | .storeAbs _ => 0xEA
  | .stop => 0x10
  | .illegal o => o

/-- The condition of a conditional form. -/
def Form.cond : Form → Option Cond
  | .jumpIf c _ | .jumpRelIf c _ | .callIf c _ | .retIf c => some c
  | _ => none

/-- The form is one of the CB table (R154). -/
def Form.prefixed : Form → Bool
  | .rotateR8 .. | .testBitR8 .. | .resetBitR8 .. | .setBitR8 .. => true
  | _ => false

/-- The cost that the session's `CYCLES` gives a form. -/
def Form.cost (f : Form) (s : State) : Nat :=
  if f.prefixed then s.cbCost f.opcode
  else if f.cond.any (fun c => !condHolds c s) then s.notTakenCost f.opcode
  else s.opCost f.opcode

theorem Form.cost_of_prefixed {f : Form} (h : f.prefixed = true) (s : State) :
    f.cost s = s.cbCost f.opcode := by
  rw [Form.cost, if_pos h]

theorem Form.cost_of_cond {f : Form} {c : Cond} (hp : f.prefixed = false) (hc : f.cond = some c) (s : State) :
    f.cost s = if condHolds c s then s.opCost f.opcode else s.notTakenCost f.opcode := by
  rw [Form.cost, hp, hc]
  cases h : condHolds c s <;> simp [h]

theorem Form.cost_of_plain {f : Form} (hp : f.prefixed = false) (hc : f.cond = none) (s : State) :
    f.cost s = s.opCost f.opcode := by
  rw [Form.cost, hp, hc]
  rfl

/-- A form of the CB table neither faults nor is the bare 0xCB. -/
theorem Form.ne_of_prefixed {f : Form} (h : f.prefixed = true) :
    f ≠ .stop ∧ (∀ o, f ≠ .illegal o) ∧ f ≠ .prefixCB := by
  refine ⟨?_, fun o => ?_, ?_⟩ <;> rintro rfl <;> cases h

/-- A completed form reports its cost. The bare 0xCB reports that of the instruction it finds in
memory. -/
theorem form_cycles {f : Form} {s t : State} (hp : f ≠ .prefixCB) (h : f.run s = .next t) :
    t.cycles = f.cost s := by
  cases f <;> simp only [Form.run, stopFault, illegalByte, Host.Outcome.next.injEq, reduceCtorEq] at h <;>
    subst h
  case prefixCB => exact absurd rfl hp
  case jumpIf c a =>
    rw [Form.cost_of_cond (c := c) rfl rfl, jumpIf]
    split <;> rfl
  case jumpRelIf c e =>
    rw [Form.cost_of_cond (c := c) rfl rfl, jumpRelIf]
    split <;> rfl
  case callIf c a =>
    rw [Form.cost_of_cond (c := c) rfl rfl, callIf]
    split <;> rfl
  case retIf c =>
    rw [Form.cost_of_cond (c := c) rfl rfl, retIf]
    split <;> rfl
  case halt =>
    unfold halt haltBug
    split
    · split <;> rfl
    · rfl
  all_goals rfl

/-- A completed instruction reports the cost of its form. -/
theorem exec_cycles {i : Instr} {s t : State} (hp : formOf i ≠ .prefixCB) (h : exec i s = .next t) :
    t.cycles = (formOf i).cost s :=
  form_cycles hp ((exec_form i s).symm.trans h)

/-! ## The form that the bytes select -/

/-- The condition of the conditional form that a first byte starts, if it starts one (R530). -/
def conditionAt (o : Byte) : Option Cond := (notTaken.find? fun r => r.1 = o).map (·.2.1)

/-- The first byte fixes the form but for its operand bytes (R150-R153, R155). -/
theorem formOf_instrOf {o : Byte} (b c : Byte) (ho : o ≠ 0xCB) :
    (formOf (instrOf o b c)).opcode = o ∧ (formOf (instrOf o b c)).prefixed = false ∧
      (formOf (instrOf o b c)).cond = conditionAt o := by
  obtain ⟨n, hn, rfl⟩ : ∃ n < 256, o = BitVec.ofNat 8 n := ⟨o.toNat, o.isLt, by simp⟩
  have hne : n ≠ 0xCB := by
    rintro rfl
    exact ho rfl
  rcases Nat.lt_or_gt_of_ne hne with hlt | hgt
  · interval_cases n <;> exact ⟨rfl, rfl, rfl⟩
  · interval_cases n <;> exact ⟨rfl, rfl, rfl⟩

/-- After 0xCB the second byte fixes the form (R154). -/
theorem formOf_instrOfCB (b : Byte) :
    (formOf (instrOfCB b)).opcode = b ∧ (formOf (instrOfCB b)).prefixed = true := by
  revert b
  decide

/-- Only an illegal byte's instruction has an illegal form (R155). -/
theorem illegal_mem {i : Instr} {o : Byte} (h : formOf i = .illegal o) : o ∈ illegalBytes := by
  cases i <;> cases h <;> decide

/-! ## The cost tables -/

/-- A byte starts at most one conditional form. -/
theorem notTaken_unique : ∀ r ∈ notTaken, ∀ q ∈ notTaken, r.1 = q.1 → r = q := by decide

/-- The cost of a form is the entry of `CYCLES` for its first byte, taken or not. -/
theorem Form.cost_eq_tableCost {f : Form} {o : Byte} (b : Byte) (s : State) (ho : o ≠ 0xCB)
    (hop : f.opcode = o) (hpre : f.prefixed = false) (hcond : f.cond = conditionAt o) :
    f.cost s = tableCost o b s := by
  unfold conditionAt at hcond
  cases hf : notTaken.find? fun r => r.1 = o with
  | none =>
    rw [hf] at hcond
    have hne : ∀ r ∈ notTaken, r.1 ≠ o := by simpa using List.find?_eq_none.1 hf
    rw [f.cost_of_plain hpre hcond, hop, tableCost_op b ho fun r hr he => absurd he (hne r hr)]
  | some r =>
    rw [hf] at hcond
    have hr : r ∈ notTaken := List.mem_of_find?_eq_some hf
    have hro : r.1 = o := by simpa using List.find?_some hf
    rw [f.cost_of_cond hpre hcond, hop]
    cases hc : condHolds r.2.1 s with
    | false =>
      rw [← hro, tableCost_notTaken (c := r.2.1) (n := r.2.2) hr ((condition_eq _ s).trans hc)]
      rfl
    | true =>
      have hholds : ∀ q ∈ notTaken, q.1 = o → condition q.2.1 s = true := fun q hq he => by
        rw [notTaken_unique q hq r hr (he.trans hro.symm), condition_eq, hc]
      rw [tableCost_op b ho hholds]
      rfl

/-- The CB costs of the default table are those of R530. -/
theorem cbCost_table : ∀ b : Byte, CycleTable.cbRows.getD b.toNat 0 = cbCost b := by decide

/-- The costs when not taken of the default table are those of R530. -/
theorem notTakenCost_table : ∀ r ∈ notTaken, CycleTable.notTakenRows.getD r.1.toNat 0 = r.2.2 := by decide

/-- With the default table the session's cost is that of R530. -/
theorem tableCost_default {s : State} (h : s.params.cycles = CycleTable.default) (o b : Byte) :
    tableCost o b s = cost o b s := by
  by_cases ho : o = 0xCB
  · rw [ho, tableCost_cb, cbCost_default h, cbCost_table]
    rfl
  · rw [cost, if_neg ho]
    cases hf : notTaken.find? fun r => r.1 = o && !condition r.2.1 s with
    | none =>
      have hall : ∀ r ∈ notTaken, r.1 = o → condition r.2.1 s = true := by
        simpa using List.find?_eq_none.1 hf
      rw [tableCost_op b ho hall, opCost_default h]
      rfl
    | some r =>
      have hr : r ∈ notTaken := List.mem_of_find?_eq_some hf
      obtain ⟨hro, hc⟩ : r.1 = o ∧ condition r.2.1 s = false := by simpa using List.find?_some hf
      rw [← hro, tableCost_notTaken (c := r.2.1) (n := r.2.2) hr hc, notTakenCost_default h,
        notTakenCost_table r hr]

/-! ## Every instruction -/

/-- What three bytes decode to completes, at the cost their session's table gives, unless the first byte is
STOP's or illegal. -/
theorem exec_instrOf {o : Byte} (b c : Byte) (s : State) (hstop : o ≠ 0x10) (hill : o ∉ illegalBytes) :
    ∃ t, exec (instrOf o b c) s = .next t ∧ t.cycles = tableCost o b s := by
  by_cases ho : o = 0xCB
  · subst ho
    obtain ⟨hop, hpre⟩ := formOf_instrOfCB b
    obtain ⟨hs, hi, hp⟩ := Form.ne_of_prefixed hpre
    obtain ⟨t, ht⟩ := exec_completes s hs hi
    refine ⟨t, ht, ?_⟩
    rw [exec_cycles hp ht, Form.cost_of_prefixed hpre, hop, tableCost_cb]
  · obtain ⟨hop, hpre, hcond⟩ := formOf_instrOf b c ho
    have hs : formOf (instrOf o b c) ≠ .stop := fun h => hstop (by rw [← hop, h]; rfl)
    have hi (x : Byte) : formOf (instrOf o b c) ≠ .illegal x := fun h =>
      hill (by rw [← hop, h]; exact illegal_mem h)
    have hp : formOf (instrOf o b c) ≠ .prefixCB := fun h => ho (by rw [← hop, h]; rfl)
    obtain ⟨t, ht⟩ := exec_completes s hs hi
    exact ⟨t, ht, (exec_cycles hp ht).trans (Form.cost_eq_tableCost b s ho hop hpre hcond)⟩

/-- Three bytes that decode are those of the instruction that `instrOf` gives. -/
theorem decode_three {o b c : Byte} {i : Instr} {rest : List Byte} (h : decode [o, b, c] = .ok (i, rest)) :
    i = instrOf o b c := by
  rcases decode_ok h with ⟨hbare, _⟩ | ⟨o', tl, hbytes, _, hi, _⟩
  · cases hbare
  · cases hbytes
    exact hi

/-- Settles O11: an instruction costs what its form does, and the form of three bytes what the table gives
them. -/
theorem everyInstructionCompletesAtItsCost : Obligations.EveryInstructionCompletesAtItsCost := by
  refine ⟨fun s o b c i rest hstop hill hd => ?_, fun s hr hime hp => ?_, fun s hr => ?_⟩
  · obtain ⟨t, ht, hcost⟩ := exec_instrOf b c s hstop hill
    rw [decode_three hd]
    exact ⟨t, ht, hcost, fun hdef => hcost.trans (tableCost_default hdef o b)⟩
  · have hi : s.takesInterrupt = true := by
      rw [State.takesInterrupt, hime, (interruptPending_iff s).1 hp]
      rfl
    exact ⟨_, cpuStep_service hr hi, rfl⟩
  · exact ⟨_, cpuStep_halted hr, rfl⟩

end Sys2Proof.Machine
end

section
/-! That no result depends on the cost table (R531): two results alike but for the cost, for every form, every
instruction and every case of a CPU step. -/

namespace Sys2Proof.Machine

/-! ## Results alike but for the cost -/

/-- The second result is the first but for the cost table, which is `c`, and the cost reported (R531). -/
inductive AlikeButCost (c : CycleTable) : Result → Result → Prop where
  | next (t : State) (n : Nat) : AlikeButCost c (.next t) (.next { t.withCycles c with cycles := n })
  | fault (r : Fault) : AlikeButCost c (.fault r) (.fault r)
  | refused (r : Refusal) : AlikeButCost c (.refused r) (.refused r)

theorem AlikeButCost.of_next {c : CycleTable} {t : State} {r : Result} (h : AlikeButCost c (.next t) r) :
    ∃ n, r = .next { t.withCycles c with cycles := n } := by
  cases h
  exact ⟨_, rfl⟩

theorem AlikeButCost.of_fault {c : CycleTable} {x : Fault} {r : Result} (h : AlikeButCost c (.fault x) r) :
    r = .fault x := by
  cases h
  rfl

theorem retire_alike {c : CycleTable} {t u : State} {pc pc' : Word} (h : u = t.withCycles c)
    (hpc : pc' = pc) (m n : Nat) : AlikeButCost c (.next (t.retire pc m)) (.next (u.retire pc' n)) := by
  subst h hpc
  exact .next (t.retire pc' m) n

theorem advance_alike {c : CycleTable} {t u : State} (h : u = t.withCycles c) (len m n : Nat) :
    AlikeButCost c (.next (t.advance len m)) (.next (u.advance len n)) := by
  subst h
  exact .next (t.advance len m) n

/-! ## The shared operations -/

@[simp] theorem flags_withCycles (s : State) (c : CycleTable) : (s.withCycles c).flags = s.flags := rfl

@[simp] theorem setA_withCycles (s : State) (c : CycleTable) (v : Byte) :
    (s.withCycles c).setA v = (s.setA v).withCycles c := rfl

@[simp] theorem setFlags_withCycles (s : State) (c : CycleTable) (f : Flags) :
    (s.withCycles c).setFlags f = (s.setFlags f).withCycles c := rfl

@[simp] theorem hl_withCycles (s : State) (c : CycleTable) : (s.withCycles c).hl = s.hl := rfl

@[simp] theorem setHL_withCycles (s : State) (c : CycleTable) (v : Word) :
    (s.withCycles c).setHL v = (s.setHL v).withCycles c := rfl

@[simp] theorem aluByte_withCycles (op : AluOp) (v : Byte) (s : State) (c : CycleTable) :
    aluByte op v (s.withCycles c) = (aluByte op v s).withCycles c := rfl

@[simp] theorem condHolds_withCycles (k : Cond) (s : State) (c : CycleTable) :
    condHolds k (s.withCycles c) = condHolds k s := by
  cases k <;> rfl

@[simp] theorem get16_withCycles (rr : R16) (s : State) (c : CycleTable) :
    get16 rr (s.withCycles c) = get16 rr s := by
  cases rr <;> rfl

@[simp] theorem set16_withCycles (rr : R16) (v : Word) (s : State) (c : CycleTable) :
    set16 rr v (s.withCycles c) = (set16 rr v s).withCycles c := by
  cases rr <;> rfl

@[simp] theorem getStk_withCycles (rr : R16Stk) (s : State) (c : CycleTable) :
    getStk rr (s.withCycles c) = getStk rr s := by
  cases rr <;> rfl

@[simp] theorem setStk_withCycles (rr : R16Stk) (v : Word) (s : State) (c : CycleTable) :
    setStk rr v (s.withCycles c) = (setStk rr v s).withCycles c := by
  cases rr <;> rfl

@[simp] theorem memAddr_withCycles (m : R16Mem) (s : State) (c : CycleTable) :
    memAddr m (s.withCycles c) = memAddr m s := by
  cases m <;> rfl

@[simp] theorem memPost_withCycles (m : R16Mem) (s : State) (c : CycleTable) :
    memPost m (s.withCycles c) = (memPost m s).withCycles c := by
  cases m <;> rfl

@[simp] theorem pop16_withCycles (s : State) (c : CycleTable) :
    pop16 (s.withCycles c) = (pop16 s).withCycles c := rfl

@[simp] theorem busWrite16_withCycles (a v : Word) (s : State) (c : CycleTable) :
    busWrite16 a v (s.withCycles c) = (busWrite16 a v s).withCycles c := by
  simp only [busWrite16, busWrite_withCycles]

/-! ## Every form -/

/-- The four operations of the CB table. -/
theorem cbTable_alike (op2 : Byte) (s : State) (c : CycleTable) :
    AlikeButCost c (.next (cbTable op2 s)) (.next (cbTable op2 (s.withCycles c))) := by
  unfold cbTable
  split
  · exact advance_alike (by simp) _ _ _
  · exact advance_alike (by simp) _ _ _
  · exact advance_alike (by simp) _ _ _
  · exact advance_alike (by simp) _ _ _

/-- A HALT that enters Halted, whether it meets the bug or not. -/
theorem enterHalted_alike (s : State) (c : CycleTable) (m n : Nat) :
    AlikeButCost c (.next ((s.advance 1 m).setRunState .halted))
      (.next (((s.withCycles c).advance 1 n).setRunState .halted)) :=
  .next ((s.advance 1 m).setRunState .halted) n

theorem haltBug_alike (s : State) (c : CycleTable) :
    AlikeButCost c (.next (haltBug s)) (.next (haltBug (s.withCycles c))) := by
  have hmode : (s.withCycles c).params.haltBugMode = s.params.haltBugMode := rfl
  unfold haltBug
  rw [hmode]
  cases s.params.haltBugMode
  case skip2 => exact retire_alike rfl rfl _ _
  case replay => exact .next ((s.advance 1 (s.opCost 0x76)).setHaltBugPending true) _
  case ignore => exact enterHalted_alike s c _ _

theorem halt_alike (s : State) (c : CycleTable) :
    AlikeButCost c (.next (halt s)) (.next (halt (s.withCycles c))) := by
  have hpending : (s.withCycles c).pending = s.pending := rfl
  unfold halt
  rw [hpending, withCycles_cpu]
  split
  · exact haltBug_alike s c
  · exact enterHalted_alike s c _ _

/-- A conditional form takes the same branch with any cost table. -/
theorem branch_alike (k : Cond) (s : State) (c : CycleTable) {t u t' u' : State}
    (ht : AlikeButCost c (.next t) (.next t')) (hu : AlikeButCost c (.next u) (.next u')) :
    AlikeButCost c (.next (if condHolds k s then t else u))
      (.next (if condHolds k (s.withCycles c) then t' else u')) := by
  rw [condHolds_withCycles]
  split
  · exact ht
  · exact hu

/-- A form computes the same with any cost table. -/
theorem form_alike (f : Form) (s : State) (c : CycleTable) :
    AlikeButCost c (f.run s) (f.run (s.withCycles c)) := by
  have hret (m n : Nat) : AlikeButCost c (.next ((pop16 s).retire (pop16Value s) m))
      (.next ((pop16 (s.withCycles c)).retire (pop16Value (s.withCycles c)) n)) :=
    retire_alike rfl (pop16Value_withCycles s c) m n
  cases f
  case stop => exact .fault _
  case illegal o => exact .fault _
  case jump a => exact retire_alike rfl rfl _ _
  case jumpHL => exact retire_alike rfl rfl _ _
  case jumpRel e => exact retire_alike rfl rfl _ _
  case jumpIf k a => exact branch_alike k s c (retire_alike rfl rfl _ _) (advance_alike rfl _ _ _)
  case jumpRelIf k e => exact branch_alike k s c (retire_alike rfl rfl _ _) (advance_alike rfl _ _ _)
  case call a => exact retire_alike (push16_withCycles _ s c) rfl _ _
  case callIf k a =>
    exact branch_alike k s c (retire_alike (push16_withCycles _ s c) rfl _ _) (advance_alike rfl _ _ _)
  case restart t => exact retire_alike (push16_withCycles _ s c) rfl _ _
  case ret => exact hret _ _
  case retIf k => exact branch_alike k s c (hret _ _) (advance_alike rfl _ _ _)
  case retI => exact retire_alike rfl (pop16Value_withCycles s c) _ _
  case halt => exact halt_alike s c
  case enableInterrupts =>
    refine advance_alike ?_ _ _ _
    show ite (s.params.eiDelay = true) _ _ = State.withCycles (ite (s.params.eiDelay = true) _ _) c
    split <;> rfl
  case prefixCB =>
    have hb : busRead ((s.withCycles c).fetchAddr 1) (s.withCycles c) = busRead (s.fetchAddr 1) s :=
      busRead_withCycles _ s c
    simp only [Form.run, prefixCB, hb]
    exact cbTable_alike _ s c
  case nop => exact advance_alike rfl _ _ _
  case addSP e => exact advance_alike rfl _ _ _
  case loadHLSP e => exact advance_alike rfl _ _ _
  case loadSPHL => exact advance_alike rfl _ _ _
  case disableInterrupts => exact advance_alike rfl _ _ _
  all_goals exact advance_alike (by simp) _ _ _

/-- An instruction computes the same with any cost table. -/
theorem exec_alike (i : Instr) (s : State) (c : CycleTable) :
    AlikeButCost c (exec i s) (exec i (s.withCycles c)) := by
  rw [exec_form, exec_form]
  exact form_alike (formOf i) s c

/-! ## The CPU step -/

/-- A delayed EI commits the same whatever the table and the cost. -/
theorem commitEI_withCycles (before : Bool) (t : State) (c : CycleTable) (n : Nat) :
    commitEI before { t.withCycles c with cycles := n } =
      { (commitEI before t).withCycles c with cycles := n } := by
  unfold commitEI
  show ite ((before && t.cpu.eiPending) = true) _ _ = _
  split <;> rfl

theorem instrStep_alike (s : State) (c : CycleTable) :
    AlikeButCost c (instrStep s) (instrStep (s.withCycles c)) := by
  have h := exec_alike (fetchInstr s) s c
  unfold instrStep
  rw [fetchInstr_withCycles]
  generalize exec (fetchInstr s) s = r, exec (fetchInstr s) (s.withCycles c) = r' at h ⊢
  cases h with
  | next t n =>
    dsimp only
    rw [withCycles_cpu, commitEI_withCycles]
    exact .next _ n
  | fault r => exact .fault r
  | refused r => exact .refused r

theorem overlayCheck_withCycles (s : State) (c : CycleTable) :
    overlayCheck (s.withCycles c) = (overlayCheck s).withCycles c := by
  unfold overlayCheck
  rw [withCycles_overlayActive, withCycles_cpu]
  split <;> rfl

theorem haltedStep_withCycles (s : State) (c : CycleTable) :
    haltedStep (s.withCycles c) = (haltedStep s).withCycles c := by
  have hpending : (s.withCycles c).pending = s.pending := rfl
  unfold haltedStep
  rw [hpending]
  split <;> rfl

theorem serviceStep_withCycles (s : State) (c : CycleTable) :
    serviceStep (s.withCycles c) = (serviceStep s).withCycles c := by
  have hpush := push16_withCycles s.cpu.pc ((s.clearIF (lowestBit s.pendingBits)).setIME false) c
  exact congrArg (fun u => { u.setPC (vector (lowestBit s.pendingBits)) with cycles := 20 }) hpush

/-- A CPU step computes the same with any cost table, in each of its three cases (R402-R404). -/
theorem cpuStep_alike (s : State) (c : CycleTable) :
    AlikeButCost c (cpuStep s) (cpuStep (s.withCycles c)) := by
  cases hr : s.cpu.runState
  case halted =>
    rw [cpuStep_halted hr, cpuStep_halted (s := s.withCycles c) hr, overlayCheck_withCycles,
      haltedStep_withCycles]
    exact .next _ _
  case running =>
    cases hi : s.takesInterrupt
    · rw [cpuStep_instr hr hi, cpuStep_instr (s := s.withCycles c) hr hi, overlayCheck_withCycles]
      exact instrStep_alike _ c
    · rw [cpuStep_service hr hi, cpuStep_service (s := s.withCycles c) hr hi, overlayCheck_withCycles,
        serviceStep_withCycles]
      exact .next _ _

/-- Settles O60: an instruction and a CPU step are alike but for the cost under any two tables. -/
theorem resultsDoNotDependOnCycles : Obligations.ResultsDoNotDependOnCycles := by
  intro s c
  exact ⟨fun i t h => (h ▸ exec_alike i s c).of_next, fun i r h => (h ▸ exec_alike i s c).of_fault,
    fun t h => (h ▸ cpuStep_alike s c).of_next, fun r h => (h ▸ cpuStep_alike s c).of_fault⟩

end Sys2Proof.Machine
end

section
/-! The invariant of Safety.lean (R25-R51, R111, R435, R440): each part of a step keeps it. -/

namespace Sys2Proof.Machine

/-! ## Masked registers -/

/-- Bits that a mask drops from two bytes it drops from their union. -/
theorem or_masked {x y m : Byte} (hx : x &&& m = 0) (hy : y &&& m = 0) : (x ||| y) &&& m = 0 := by
  rw [BitVec.and_comm, BitVec.and_or_distrib_left, BitVec.and_comm m x, BitVec.and_comm m y, hx, hy]
  rfl

/-- A byte written through a mask has no bit of a mask apart from it. -/
theorem and_masked (v : Byte) {k m : Byte} (h : k &&& m = 0) : v &&& k &&& m = 0 := by
  rw [BitVec.and_assoc, h]
  exact BitVec.and_zero

/-- A mask dropped from a byte is dropped from every part of it. -/
theorem and_masked_left {x m : Byte} (v : Byte) (h : x &&& m = 0) : x &&& v &&& m = 0 := by
  rw [BitVec.and_assoc, BitVec.and_comm v m, ← BitVec.and_assoc, h]
  exact BitVec.zero_and

/-- A write to an I/O register keeps the masks: each masked register takes the byte through its own (R93). -/
theorem ioWrite_masked (a : Word) (v : Byte) {s : State} (h : registersMasked s) :
    registersMasked (ioWrite a v s) := by
  obtain ⟨hreq, htac, hstat, hp1, hsc⟩ := h
  unfold ioWrite
  cases ioRegister a
  case irq => exact ⟨and_masked v rfl, htac, hstat, hp1, hsc⟩
  case tac => exact ⟨hreq, and_masked v rfl, hstat, hp1, hsc⟩
  case stat => exact ⟨hreq, htac, and_masked v rfl, hp1, hsc⟩
  case p1 => exact ⟨hreq, htac, hstat, and_masked v rfl, hsc⟩
  case sc => exact ⟨hreq, htac, hstat, hp1, and_masked v rfl⟩
  all_goals exact ⟨hreq, htac, hstat, hp1, hsc⟩

/-- A write to an I/O register starts a DMA of 160 cycles or leaves it alone (R435). -/
theorem ioWrite_dmaBounded (a : Word) (v : Byte) {s : State} (h : dmaBounded s) :
    dmaBounded (ioWrite a v s) := by
  unfold ioWrite
  cases ioRegister a
  case dma => exact fun _ => ⟨Nat.succ_pos 159, le_rfl⟩
  all_goals exact h

theorem busWrite_masked (a : Word) (v : Byte) {s : State} (h : registersMasked s) :
    registersMasked (busWrite a v s) := by
  rcases busWrite_cases a v s with ⟨e, _⟩ | ⟨k, _, e⟩ | ⟨_, _, e⟩ | ⟨_, _, _, e⟩ | ⟨_, _, e⟩ <;> rw [e]
  case inr.inr.inr.inl => exact ioWrite_masked a v h
  all_goals exact h

theorem busWrite_dmaBounded (a : Word) (v : Byte) {s : State} (h : dmaBounded s) :
    dmaBounded (busWrite a v s) := by
  rcases busWrite_cases a v s with ⟨e, _⟩ | ⟨k, _, e⟩ | ⟨_, _, e⟩ | ⟨_, _, _, e⟩ | ⟨_, _, e⟩ <;> rw [e]
  case inr.inr.inr.inl => exact ioWrite_dmaBounded a v h
  all_goals exact h

/-! ## The parts of a step -/

/-- A bus write keeps the invariant. -/
theorem Inv.busWrite {s : State} (h : Inv s) (a : Word) (v : Byte) : Inv (busWrite a v s) := by
  obtain ⟨hcpu, _, _, _, hparams, _, hdiv, htima, hmode, hacc, hly, _, _, _, hframe, _⟩ :=
    busWrite_frame a v s
  refine ⟨busWrite_wf a v h.memory, ?_, busWrite_masked a v h.masks, ?_, busWrite_dmaBounded a v h.dma,
    ?_, ?_, ?_, ?_, bankLegal_busWrite a v h.bank⟩
  · rw [flagsClean, hcpu]; exact h.flags
  · rw [timerBounded, hdiv, htima]; exact h.timer
  · rw [ppuAccBounded, hacc, hmode]; exact h.ppuAcc
  · rw [scanlineInRange, hly, hmode]; exact h.scanline
  · rw [frameShaped, hframe]; exact h.frame
  · rw [pendingFlagsAllowed, hcpu, hparams]; exact h.pendingFlags

theorem Inv.writes {s t : State} (h : Inv s) (hw : Writes s t) : Inv t :=
  hw.induct (fun a v _ hu => hu.busWrite a v) h

/-- A new CPU and cost keep the invariant where F is clean and the pending flags are allowed. -/
theorem Inv.withCpu {s : State} (h : Inv s) {c : Cpu} (n : Nat) (hf : c.f &&& 0x0F = 0)
    (he : c.eiPending = true → s.params.eiDelay = true)
    (hh : c.haltBugPending = true → s.params.haltBugMode = .replay) :
    Inv { s with cpu := c, cycles := n } :=
  ⟨h.memory, hf, h.masks, h.timer, h.dma, h.ppuAcc, h.scanline, h.frame, ⟨he, hh⟩, h.bank⟩

/-- The overlay check unmaps the overlay at most (R96). -/
theorem Inv.overlayCheck {s : State} (h : Inv s) : Inv (overlayCheck s) := by
  rw [overlayCheck_eq]
  exact ⟨h.memory, h.flags, h.masks, h.timer, h.dma, h.ppuAcc, h.scanline, h.frame, h.pendingFlags, h.bank⟩

/-- A halted step changes `run_state` at most (R402). -/
theorem Inv.haltedStep {s : State} (h : Inv s) : Inv (haltedStep s) := by
  obtain ⟨he, hh⟩ := h.pendingFlags
  unfold Machine.haltedStep
  split
  · exact h.withCpu 4 h.flags he hh
  · exact h.withCpu 4 h.flags he hh

/-- A push keeps the invariant: two bus writes and a new SP. -/
theorem Inv.push16 {s : State} (h : Inv s) (v : Word) : Inv (push16 v s) := by
  obtain ⟨he, hh⟩ := h.pendingFlags
  obtain ⟨u, hw, hu⟩ := push16_eq_writes v s
  have hparams : u.params = s.params := hw.keepsSession.params
  rw [hu]
  exact (h.writes hw).withCpu u.cycles h.flags (hparams ▸ he) (hparams ▸ hh)

/-- Interrupt entry is a push from the state with the request and IME cleared, and then a jump (R412). -/
theorem serviceStep_eq (s : State) :
    serviceStep s =
      { (push16 s.cpu.pc ((s.clearIF (lowestBit s.pendingBits)).setIME false)).setPC
          (vector (lowestBit s.pendingBits)) with cycles := 20 } := rfl

theorem Inv.serviceStep {s : State} (h : Inv s) : Inv (serviceStep s) := by
  obtain ⟨hreq, htac, hstat, hp1, hsc⟩ := h.masks
  have hclear : Inv ((s.clearIF (lowestBit s.pendingBits)).setIME false) :=
    ⟨h.memory, h.flags, ⟨and_masked_left _ hreq, htac, hstat, hp1, hsc⟩, h.timer, h.dma, h.ppuAcc,
      h.scanline, h.frame, h.pendingFlags, h.bank⟩
  have hpush := hclear.push16 s.cpu.pc
  rw [serviceStep_eq]
  generalize Machine.push16 s.cpu.pc ((s.clearIF (lowestBit s.pendingBits)).setIME false) = u at hpush ⊢
  exact hpush.withCpu 20 hpush.flags hpush.pendingFlags.1 hpush.pendingFlags.2

/-- A completed instruction is bus writes and a new CPU: its F is clean or the old one, and the pending flags
are set only where the parameters allow it. -/
theorem Inv.exec {i : Instr} {s t : State} (h : Inv s) (hx : exec i s = .next t) : Inv t := by
  obtain ⟨u, hw, ht, heff⟩ := exec_effect hx
  have hparams : u.params = s.params := hw.keepsSession.params
  obtain ⟨hei, _⟩ := h.pendingFlags
  rw [ht]
  refine (h.writes hw).withCpu t.cycles ?_ (fun he => ?_) (fun hb => ?_)
  · rcases heff.flags with hf | hf
    · rw [hf]; exact h.flags
    · exact hf
  · rw [hparams]
    rcases heff.eiPending with hsame | ⟨_, hoff⟩ | ⟨_, hdelay, _⟩
    · exact hei (hsame ▸ he)
    · rw [hoff] at he; cases he
    · exact hdelay
  · rw [hparams]
    rcases heff.haltBug with hoff | ⟨_, hmode⟩
    · rw [hoff] at hb; cases hb
    · exact hmode

/-- The commit of a delayed EI clears `ei_pending` (R406). -/
theorem Inv.commitEI {s : State} (h : Inv s) (before : Bool) : Inv (commitEI before s) := by
  unfold Machine.commitEI
  split
  · exact h.withCpu s.cycles h.flags (fun he => by cases he) h.pendingFlags.2
  · exact h

/-- A CPU step keeps the invariant, whichever of its cases it is. -/
theorem Inv.cpuStep {s t : State} (h : Inv s) (hs : cpuStep s = .next t) : Inv t := by
  rcases cpuStep_cases hs with ⟨_, rfl⟩ | ⟨_, _, rfl⟩ | ⟨_, _, u, hu, rfl⟩
  · exact h.overlayCheck.haltedStep
  · exact h.overlayCheck.serviceStep
  · exact (h.overlayCheck.exec hu).commitEI _

/-! ## The devices -/

theorem Inv.timerStep {s : State} (h : Inv s) (c : Nat) : Inv (timerStep c s) := by
  obtain ⟨hreq, htac, hstat, hp1, hsc⟩ := h.masks
  obtain ⟨x, y, acc, v, hv, hacc, e⟩ := timerStep_eq c s
  have hvm : v &&& 0xE0 = 0 := by rcases hv with rfl | rfl <;> rfl
  rw [e]
  exact ⟨h.memory, h.flags, ⟨or_masked hreq hvm, htac, hstat, hp1, hsc⟩,
    ⟨Nat.mod_lt _ (by decide), hacc h.timer.2⟩, h.dma, h.ppuAcc, h.scanline, h.frame, h.pendingFlags,
    h.bank⟩

/-- A DMA's countdown only falls, and the copy writes the byte store canonically (R436). -/
theorem Inv.dmaStep {s : State} (h : Inv s) (c : Nat) : Inv (dmaStep c s) := by
  obtain ⟨d, m, e, hwf, _, _, _, hact⟩ := dmaStep_eq c s
  rw [e]
  refine ⟨hwf h.memory, h.flags, h.masks, h.timer, fun ha => ?_, h.ppuAcc, h.scanline, h.frame,
    h.pendingFlags, h.bank⟩
  obtain ⟨hon, hpos, hle⟩ := hact ha
  exact ⟨hpos, hle.trans (h.dma hon).2⟩

theorem Inv.ppuStep {s : State} (h : Inv s) (c : Nat) : Inv (ppuStep c s) := by
  obtain ⟨hreq, htac, hstat, hp1, hsc⟩ := h.masks
  have hacc := ppuStep_bounded c s
  have hline := ppuStep_scanline c h.scanline
  obtain ⟨p, v, e, hv, _, hstat', _, _, _, _, _, _, _, _, hframe⟩ := ppuStep_effect c s
  have hvm : v &&& 0xE0 = 0 := by
    rw [show (0xE0 : Byte) = 0xFC &&& 0xE0 from rfl, ← BitVec.and_assoc, hv]; rfl
  have hframe := hframe h.frame
  rw [e] at hacc hline hframe ⊢
  refine ⟨h.memory, h.flags, ⟨or_masked hreq hvm, htac, ?_, hp1, hsc⟩, h.timer, h.dma, hacc, hline, hframe,
    h.pendingFlags, h.bank⟩
  show p.statEnables &&& 0x87 = 0
  rw [hstat', hstat]

theorem Inv.deviceStep {s : State} (h : Inv s) : Inv (deviceStep s) :=
  ((h.timerStep s.cycles).dmaStep s.cycles).ppuStep s.cycles

/-- A step that goes on keeps the invariant. -/
theorem Inv.step {s t : State} (h : Inv s) (hs : step s = .next t) : Inv t := by
  obtain ⟨_, u, hu, rfl⟩ := step_cases hs
  exact (h.cpuStep hu).deviceStep

/-- Settles O12: the CPU step keeps the invariant, and so does each device. -/
theorem everyStepKeepsTheInvariant : Obligations.EveryStepKeepsTheInvariant :=
  fun _ _ h hs => h.step hs

/-- The blank framebuffer has its shape (R49, R57). -/
theorem blankFrame_shaped :
    Ppu.blankFrame.length = 144 ∧ ∀ row ∈ Ppu.blankFrame, row.length = 160 :=
  ⟨List.length_replicate, fun row hrow => by
    rw [List.eq_of_mem_replicate hrow, List.length_replicate]⟩

/-- Settles O13: every clause is a fact about the reset values. -/
theorem theInvariantHoldsAtReset : Obligations.TheInvariantHoldsAtReset :=
  ⟨wf_reset, rfl, by decide, by decide, by decide, by decide, by decide, blankFrame_shaped, by decide,
    trivial⟩

end Sys2Proof.Machine
end

section
/-! What a step does to the overlay, to IME and to the requests, and how a fault ends the run (R27, R31-R33,
R96, R400, R460). -/

namespace Sys2Proof.Machine

open Sys2Proof.Claims

/-! ## The overlay (R31, R96) -/

/-- The overlay check in the words of the statements. -/
theorem overlaySeen_eq (s : State) : overlaySeen s = overlayCheck s := by
  unfold overlaySeen overlayCheck
  by_cases ha : s.overlayActive = true
  · by_cases hpc : s.cpu.pc = 0x0100
    · rw [if_pos ⟨ha, hpc⟩, ha, hpc]; rfl
    · rw [if_neg fun h => hpc h.2, ha, decide_eq_true hpc, Bool.and_self, ← ha]
  · rw [if_neg fun h => ha h.1, Bool.eq_false_of_not_eq_true ha, Bool.false_and,
      ← Bool.eq_false_of_not_eq_true ha]

theorem overlayCheck_overlayActive (s : State) :
    (overlayCheck s).overlayActive = (s.overlayActive && decide (s.cpu.pc ≠ 0x0100)) := by
  rw [← overlaySeen_eq]; rfl

theorem Writes.overlayActive {s t : State} (h : Writes s t) : t.overlayActive = s.overlayActive :=
  h.induct (P := fun u => u.overlayActive = s.overlayActive)
    (fun a v u hu => (busWrite_overlayActive a v u).trans hu) rfl

theorem exec_overlayActive {i : Instr} {s t : State} (h : exec i s = .next t) :
    t.overlayActive = s.overlayActive := by
  obtain ⟨u, hw, ht, _⟩ := exec_effect h
  rw [ht]
  exact hw.overlayActive

theorem serviceStep_overlayActive (s : State) : (serviceStep s).overlayActive = s.overlayActive := by
  obtain ⟨u, hw, hu⟩ := push16_eq_writes s.cpu.pc ((s.clearIF (lowestBit s.pendingBits)).setIME false)
  rw [serviceStep_eq, hu]
  exact hw.overlayActive

/-- A CPU step leaves the overlay as its overlay check does. -/
theorem cpuStep_overlayActive {s t : State} (h : cpuStep s = .next t) :
    t.overlayActive = (overlayCheck s).overlayActive := by
  rcases cpuStep_cases h with ⟨_, rfl⟩ | ⟨_, _, rfl⟩ | ⟨_, _, u, hu, rfl⟩
  · rw [haltedStep_eq]
  · exact serviceStep_overlayActive _
  · rw [← exec_overlayActive hu, commitEI_eq]

/-! ## The devices -/

/-- What the devices do outside their own registers and the byte store: they raise some of the VBlank, STAT
and Timer requests. -/
theorem deviceStep_frame (s : State) :
    ∃ v : Byte, v &&& 0xF8 = 0 ∧ (deviceStep s).irq = { s.irq with req := s.irq.req ||| v } ∧
      (deviceStep s).sb = s.sb ∧ (deviceStep s).sc = s.sc ∧
      (deviceStep s).overlayActive = s.overlayActive := by
  obtain ⟨_, _, _, v, hv, _, ht⟩ := timerStep_eq s.cycles s
  obtain ⟨_, _, hd, _⟩ := dmaStep_eq s.cycles (timerStep s.cycles s)
  obtain ⟨_, w, hp, hw, _⟩ := ppuStep_effect s.cycles (dmaStep s.cycles (timerStep s.cycles s))
  refine ⟨v ||| w, ?_, ?_⟩
  · have hvm : v &&& 0xF8 = 0 := by rcases hv with rfl | rfl <;> rfl
    have hwm : w &&& 0xF8 = 0 := by
      rw [show (0xF8 : Byte) = 0xFC &&& 0xF8 from rfl, ← BitVec.and_assoc, hw]
      exact BitVec.zero_and
    exact or_masked hvm hwm
  · rw [deviceStep, hp, hd, ht]
    exact ⟨by rw [← BitVec.or_assoc], rfl, rfl, rfl⟩

/-- Settles O10: the overlay check decides, and nothing after it in a step touches the overlay. -/
theorem overlayUnmapsAtTheEntryPoint : Obligations.OverlayUnmapsAtTheEntryPoint := by
  intro s t h
  obtain ⟨_, u, hu, rfl⟩ := step_cases h
  obtain ⟨_, _, _, _, _, hdev⟩ := deviceStep_frame u
  rw [hdev, cpuStep_overlayActive hu, overlayCheck_overlayActive, Bool.and_eq_true, decide_eq_true_eq]

/-- The devices in the words of the statements. -/
theorem devices_eq (s : State) : devices s = deviceStep s := rfl

/-- A bit of a mask that a byte has nothing of is not set in the byte. -/
theorem getLsbD_of_masked {v m : Byte} {i : Nat} (h : v &&& m = 0) (hm : m.getLsbD i = true) :
    v.getLsbD i = false := by
  have hbit := congrArg (fun b => b.getLsbD i) h
  simpa [hm] using hbit

/-- Settles O19: the devices' part of IF is a union with bits 0 to 2 alone. -/
theorem devicesRaiseNoSerialRequest : Obligations.DevicesRaiseNoSerialRequest := by
  intro s
  obtain ⟨v, hv, hirq, hsb, hsc, _⟩ := deviceStep_frame s
  have h3 : v.getLsbD 3 = false := getLsbD_of_masked hv (by decide)
  have h4 : v.getLsbD 4 = false := getLsbD_of_masked hv (by decide)
  rw [devices_eq, hirq]
  simp only [BitVec.getLsbD_or, h3, h4, Bool.or_false, true_and]
  exact ⟨fun i hi => by rw [hi, Bool.true_or], hsb, hsc⟩

/-! ## IME (R27) -/

/-- DI, EI and RETI are the only instructions of their forms. -/
theorem eq_of_formOf_eq {i j : Instr} (hj : j = .di ∨ j = .ei ∨ j = .reti) (h : formOf i = formOf j) :
    i = j := by
  rcases hj with rfl | rfl | rfl <;> cases i <;> cases h <;> rfl

/-- Settles O17: the effect of every form names the three that change IME. -/
theorem onlyEiDiAndRetiChangeIme : Obligations.OnlyEiDiAndRetiChangeIme := by
  intro i s t h hne
  obtain ⟨_, _, _, heff⟩ := exec_effect h
  rcases heff.ime with hsame | ⟨hf, hoff⟩ | ⟨hf, hon⟩
  · exact absurd hsame hne
  · exact .inl ⟨eq_of_formOf_eq (.inl rfl) hf, hoff⟩
  · exact .inr ⟨hf.imp (eq_of_formOf_eq (.inr (.inl rfl))) (eq_of_formOf_eq (.inr (.inr rfl))), hon⟩

/-! ## Faults (R32, R400) -/

/-- A block with a fault recorded answers it again and stays as it is. -/
theorem step_of_fault {s : State} {r : Fault} (h : s.fault = some r) :
    step s = .fault r ∧ stepRecorded s = s := by
  have hstep : step s = .fault r := by simp only [step, sysStep, h]
  exact ⟨hstep, by simp only [stepRecorded, hstep, recordFault, h]⟩

/-- A step's fault is recorded, and with it only the overlay check changes the state. -/
theorem stepRecorded_of_fault {s : State} {r : Fault} (hf : s.fault = none) (h : step s = .fault r) :
    stepRecorded s = { overlayCheck s with fault := some r } := by
  simp only [stepRecorded, h, recordFault, hf]

/-- Settles O9: a recorded fault is a fixed point of the recorded step. -/
theorem faultEndsTheRun : Obligations.FaultEndsTheRun := by
  refine ⟨fun s r h => step_of_fault h, fun s r hf h => ?_⟩
  have hrec := stepRecorded_of_fault hf h
  have hfix : stepRecorded (stepRecorded s) = stepRecorded s :=
    (step_of_fault (r := r) (by rw [hrec])).2
  rw [overlaySeen_eq]
  exact ⟨hrec, fun n => Function.iterate_fixed hfix n⟩

end Sys2Proof.Machine
end

section
/-! A load's cases (R100-R103, R500), and that every session keeps the invariant (R470, R471, R503). -/

namespace Sys2Proof.Machine

/-- A load that succeeds has an image whose header gives a cartridge, and starts with the overlay if one is
given. -/
theorem load_cases {args : LoadArgs} {s : State} (h : load args = .ok s) :
    ∃ image cart, args.image = some image ∧ cartOfHeader args.tables image = .ok cart ∧
      ((args.overlay = none ∧ s = powerOnPlain args cart image) ∨
        ∃ v, args.overlay = some v ∧ s = powerOnOverlay args cart image v) := by
  unfold load at h
  cases hi : args.image with
  | none => rw [hi] at h; cases h
  | some image =>
    rw [hi] at h
    cases hc : cartOfHeader args.tables image with
    | error r => simp only [hc] at h; cases h
    | ok cart =>
      simp only [hc] at h
      cases ho : args.overlay <;> rw [ho] at h <;> cases h
      · exact ⟨image, cart, rfl, hc, .inl ⟨rfl, rfl⟩⟩
      · exact ⟨image, cart, rfl, hc, .inr ⟨_, rfl, rfl⟩⟩

/-- A header that gives a cartridge is whole, and the tables list its three bytes. -/
theorem cartOfHeader_cases {t : HeaderTables} {image : List Byte} {c : Cart}
    (h : cartOfHeader t image = .ok c) :
    0x150 ≤ image.length ∧ ∃ v romSize ramSize, c = Cart.powerOn v romSize ramSize ∧
      cartTypeOf t (image.getD 0x147 0) = some v ∧ romSizeOf t (image.getD 0x148 0) = some romSize ∧
      ramSizeOf t (image.getD 0x149 0) = some ramSize := by
  unfold cartOfHeader at h
  split at h
  · cases h
  · rename_i hlen
    cases hv : cartTypeOf t (image.getD 0x147 0) <;> simp only [hv] at h
    case none => cases h
    cases hr : romSizeOf t (image.getD 0x148 0) <;> simp only [hr] at h
    case none => cases h
    cases hs : ramSizeOf t (image.getD 0x149 0) <;> simp only [hs] at h <;> cases h
    exact ⟨Nat.not_lt.1 hlen, _, _, _, rfl, rfl, rfl, rfl⟩

/-! ## The invariant -/

/-- The bank state of R114 is legal for every variant. -/
theorem bankLegal_powerOn {s : State} {v : Variant} {romSize ramSize : Nat}
    (h : s.cart = Cart.powerOn v romSize ramSize) : bankLegal s := by
  unfold bankLegal
  rw [h]
  cases v
  case none => trivial
  case A =>
    show (1 : BitVec 9).toNat < 128 ∧ (1 : BitVec 9) &&& 0x1F ≠ 0 ∧ (0 : BitVec 4).toNat < 4
    decide
  case B =>
    show 0 < (1 : BitVec 9).toNat ∧ (1 : BitVec 9).toNat < 128 ∧ (0 : BitVec 4).toNat < 8
    decide
  case C =>
    have hbank : (1 : BitVec 9) &&& 0xFF ≠ 0 := by decide
    exact fun _ => hbank

/-- The sprite lists are free in the invariant. -/
theorem Inv.gatherSprites {s : State} (h : Inv s) : Inv (gatherSprites s) :=
  ⟨h.memory, h.flags, h.masks, h.timer, h.dma, h.ppuAcc, h.scanline, h.frame, h.pendingFlags, h.bank⟩

/-- The invariant holds at power-on without the overlay: but for memory and cartridge it is the reset state. -/
theorem inv_powerOnPlain (args : LoadArgs) (image : List Byte) (v : Variant) (romSize ramSize : Nat) :
    Inv (powerOnPlain args (Cart.powerOn v romSize ramSize) image) := by
  have hreset : Inv State.reset := theInvariantHoldsAtReset
  apply Inv.gatherSprites
  exact ⟨wf_powerOnMemory _ _ _ _ (by decide), hreset.flags, hreset.masks, hreset.timer,
    hreset.dma, hreset.ppuAcc, hreset.scanline, hreset.frame, ⟨nofun, nofun⟩,
    bankLegal_powerOn rfl⟩

/-- The invariant holds at power-on with the overlay: the registers' masks are applied to `BOOT_REGS` and
`BOOT_IO`. -/
theorem inv_powerOnOverlay (args : LoadArgs) (image : List Byte) (overlay : Vector Byte 256) (v : Variant)
    (romSize ramSize : Nat) :
    Inv (powerOnOverlay args (Cart.powerOn v romSize ramSize) image overlay) := by
  have htimer : 0 < 256 ∧ 0 < 1024 := by decide
  have hacc : 0 < budget .oamSearch := by decide
  have hline : (0 : Byte).toNat ≤ 153 ∧ (PpuMode.oamSearch = .vBlank ↔ 144 ≤ (0 : Byte).toNat) := by decide
  apply Inv.gatherSprites
  exact ⟨wf_powerOnMemory _ _ _ _ (by simp), and_masked _ rfl,
    ⟨and_masked _ rfl, and_masked _ rfl, and_masked _ rfl, and_masked _ rfl, and_masked _ rfl⟩, htimer,
    nofun, hacc, hline, blankFrame_shaped,
    ⟨nofun, nofun⟩, bankLegal_powerOn rfl⟩

/-- Every load that succeeds gives a state with the invariant. -/
theorem inv_load {args : LoadArgs} {s : State} (h : load args = .ok s) : Inv s := by
  obtain ⟨image, cart, _, hc, hs⟩ := load_cases h
  obtain ⟨_, v, romSize, ramSize, rfl, _⟩ := cartOfHeader_cases hc
  rcases hs with ⟨_, rfl⟩ | ⟨overlay, _, rfl⟩
  · exact inv_powerOnPlain args image v romSize ramSize
  · exact inv_powerOnOverlay args image overlay v romSize ramSize

/-- A recorded step keeps the invariant, whether the step goes on or ends in a fault. -/
theorem Inv.stepRecorded {s : State} (h : Inv s) : Inv (stepRecorded s) := by
  unfold Machine.stepRecorded
  cases hs : Machine.step s with
  | next t => exact h.step hs
  | refused r => exact h
  | fault r =>
    dsimp only
    unfold recordFault
    split
    · exact h
    · have ho := h.overlayCheck
      exact ⟨ho.memory, ho.flags, ho.masks, ho.timer, ho.dma, ho.ppuAcc, ho.scanline, ho.frame,
        ho.pendingFlags, ho.bank⟩

/-- A press raises the Joypad request, a bit that IF has (R471). -/
theorem Inv.press {s : State} (h : Inv s) (k : Button) : Inv (press k s) := by
  obtain ⟨hreq, htac, hstat, hp1, hsc⟩ := h.masks
  exact ⟨h.memory, h.flags, ⟨or_masked hreq (by decide), htac, hstat, hp1, hsc⟩, h.timer, h.dma, h.ppuAcc,
    h.scanline, h.frame, h.pendingFlags, h.bank⟩

theorem Inv.release {s : State} (h : Inv s) (k : Button) : Inv (release k s) :=
  ⟨h.memory, h.flags, h.masks, h.timer, h.dma, h.ppuAcc, h.scanline, h.frame, h.pendingFlags, h.bank⟩

/-- Every host action keeps the invariant; a reset is a load, which has it anew. -/
theorem Inv.act {x : Session} (h : Inv x.state) (k : HostAction) : Inv (x.act k).state := by
  cases k with
  | step => exact h.stepRecorded
  | press key => exact h.press key
  | release key => exact h.release key
  | reset =>
    unfold Session.act
    cases hl : load x.args with
    | ok s => exact inv_load hl
    | error r => exact h

/-- Settles O14: a load has the invariant and every host action keeps it. -/
theorem everySessionKeepsTheInvariant : Obligations.EverySessionKeepsTheInvariant := by
  intro args x acts h
  have hx : Inv x.state := by
    unfold startSession at h
    cases hl : load args <;> rw [hl] at h <;> cases h
    exact inv_load hl
  clear h
  induction acts generalizing x with
  | nil => exact hx
  | cons k acts ih => exact ih (x.act k) (hx.act k)

end Sys2Proof.Machine
end

section
/-! The bus: each region of the address space, the I/O page, the sound registers and the storage a byte reads
back from (R52, R80-R95, R104, R108). -/

namespace Sys2Proof.Machine

open Sys2Proof.Claims

/-! ## Regions -/

/-- Above 0x00FF no read meets the overlay. -/
theorem overlayHit_of_lt {a : Word} (s : State) (h : 0xFF < a.toNat) : s.overlayHit a = false := by
  rw [State.overlayHit, decide_eq_false (by omega), Bool.and_false]

/-- The four regions of plain storage at their own addresses (R82, R84, R86, R89). -/
def IsPlain (a : Word) : Prop :=
  ownerOf a = .vram ∨ ownerOf a = .wram ∨ ownerOf a = .oam ∨ ownerOf a = .hram

theorem isPlain_of_range {a : Word}
    (h : (0x8000 ≤ a.toNat ∧ a.toNat ≤ 0x9FFF) ∨ (0xC000 ≤ a.toNat ∧ a.toNat ≤ 0xDFFF) ∨
      (0xFE00 ≤ a.toNat ∧ a.toNat ≤ 0xFE9F) ∨ (0xFF80 ≤ a.toNat ∧ a.toNat ≤ 0xFFFE)) : IsPlain a := by
  rcases h with h | h | h | h
  · exact .inl (ownerOf_vram h.1 (by omega))
  · exact .inr (.inl (ownerOf_wram h.1 (by omega)))
  · exact .inr (.inr (.inl (ownerOf_oam h.1 (by omega))))
  · exact .inr (.inr (.inr (ownerOf_hram h.1 (by omega))))

theorem storeKey_plain {a : Word} (s : State) (h : IsPlain a) : storeKey a s = some a.toNat := by
  unfold storeKey
  rcases h with h | h | h | h <;> rw [h]

theorem storeKey_echo {a : Word} (s : State) (h : ownerOf a = .echo) :
    storeKey a s = some (echoKey a) := by simp only [storeKey, h]

theorem storeKey_wave {a : Word} (s : State) (h : 0xFF30 ≤ a.toNat ∧ a.toNat ≤ 0xFF3F) :
    storeKey a s = some a.toNat := by
  simp only [storeKey, ownerOf_io (a := a) (by omega) (by omega), isWaveRam, h, decide_true, Bool.and_self,
    if_true]

/-- Where a write stores a byte, that is all it does. -/
theorem busWrite_storeKey {a : Word} {s : State} {k : Nat} (h : storeKey a s = some k) (v : Byte) :
    busWrite a v s = s.writeKey k v := by
  rcases busWrite_cases a v s with ⟨_, h'⟩ | ⟨j, h', e⟩ | ⟨_, h', _⟩ | ⟨_, _, h', _⟩ | ⟨_, h', _⟩ <;>
    rw [h] at h' <;> cases h'
  exact e

/-- A storage address reads the byte at its key. -/
theorem busRead_storeKey {a : Word} {s : State} {k : Nat} (h : storeKey a s = some k) :
    busRead a s = s.readKey k := busRead_loadKey (loadKey_of_storeKey h)

/-- The key of the echo is 0x2000 below the address (R85). -/
theorem echoKey_eq {a : Word} (h : 0xE000 ≤ a.toNat) (h' : a.toNat ≤ 0xFDFF) :
    echoKey a = a.toNat - 0x2000 := by
  unfold echoKey
  omega

theorem busRead_rom {a : Word} {s : State} (h : a.toNat < 0x8000) (ho : s.overlayHit a = false) :
    busRead a s = s.readKey (s.cart.romKey a) := by
  simp only [busRead, ho, ownerOf_rom h, Bool.false_eq_true, if_false]

theorem romKey_low {a : Word} (c : Cart) (h : a.toNat ≤ 0x3FFF) : c.romKey a = romBase + a.toNat :=
  if_pos (by omega)

theorem romKey_high {a : Word} (c : Cart) (h : 0x4000 ≤ a.toNat) (h' : a.toNat ≤ 0x7FFF) :
    c.romKey a = romBase + (c.effectiveRomBank * 0x4000 + (a.toNat - 0x4000)) := by
  rw [Cart.romKey, if_neg (by omega), show a.toNat % 0x4000 = a.toNat - 0x4000 by omega]

/-- Settles O21: each region's owner decides. -/
theorem busDispatch : Obligations.BusDispatch := by
  intro a v s
  refine ⟨fun ha hlow => ?_, fun hno hlow => ?_, fun hlo hhi => ?_, fun hrom hnone => ?_, fun hplain => ?_,
    fun hlo hhi => ?_, fun hlo hhi => ?_, fun hie => ?_⟩
  · have hhit : s.overlayHit a = true := by rw [State.overlayHit, ha, decide_eq_true hlow]; rfl
    rw [busRead, if_pos hhit]
  · have hhit : s.overlayHit a = false := by
      rw [State.overlayHit, Bool.and_eq_false_iff, decide_eq_false_iff_not, ← Bool.not_eq_true]
      exact Decidable.not_and_iff_or_not.1 hno
    rw [busRead_rom (by omega) hhit, romKey_low _ hlow]
  · rw [busRead_rom (by omega) (overlayHit_of_lt s (by omega)), romKey_high _ hlo hhi]
    rfl
  · have hrom : a.toNat < 0x8000 := by omega
    simp only [busWrite, ownerOf_rom hrom, Cart.control, hnone]
  · have hk := storeKey_plain s (isPlain_of_range hplain)
    exact ⟨busRead_storeKey hk, busWrite_storeKey hk v⟩
  · have hk := storeKey_echo s (ownerOf_echo hlo (by omega))
    rw [echoKey_eq hlo hhi] at hk
    exact ⟨busRead_storeKey hk, busWrite_storeKey hk v⟩
  · have ho := ownerOf_unusable hlo (by omega)
    simp only [busRead, busWrite, ho, overlayHit_of_lt s (show 0xFF < a.toNat by omega), Bool.false_eq_true,
      if_false, and_self]
  · have ho := ownerOf_ie (a := a) (by omega)
    simp only [busRead, busWrite, ho, overlayHit_of_lt s (show 0xFF < a.toNat by omega), Bool.false_eq_true,
      if_false, and_self]

/-! ## Storage -/

/-- Two addresses that store under one key are the same, or one is the other's echo (R85). -/
theorem eq_of_storeKey {a b : Word} {s : State} {k : Nat} (ha : IsPlain a ∨ 0xFF30 ≤ a.toNat ∧ a.toNat ≤ 0xFF3F)
    (hb : storeKey b s = some k) (hk : storeKey a s = some k) : b = a ∨ b = a + 0x2000 := by
  have hka : a.toNat = k := by
    rcases ha with h | h
    · exact Option.some.inj ((storeKey_plain s h).symm.trans hk)
    · exact Option.some.inj ((storeKey_wave s h).symm.trans hk)
  have hr := ownerOf_range b
  have hbound := a.isLt
  unfold storeKey at hb
  cases ho : ownerOf b <;> simp only [ho] at hb hr
  case rom | unusable | ie => cases hb
  case cartRam =>
    split at hb
    · have hbk : 0x10000 + s.cart.ramIndex b = k := Option.some.inj hb
      omega
    · cases hb
  case echo =>
    have hbk : 0xC000 + b.toNat % 0x2000 = k := Option.some.inj hb
    refine .inr (BitVec.eq_of_toNat_eq ?_)
    rw [BitVec.toNat_add]
    show b.toNat = (a.toNat + 0x2000) % 65536
    omega
  case io =>
    split at hb
    · exact .inl (BitVec.eq_of_toNat_eq ((Option.some.inj hb).trans hka.symm))
    · cases hb
  all_goals exact .inl (BitVec.eq_of_toNat_eq ((Option.some.inj hb).trans hka.symm))

/-- An echo address and the work RAM address below it are the same storage (R85). -/
theorem storeKey_below_echo {a : Word} (s : State) (h : 0xE000 ≤ a.toNat) (h' : a.toNat ≤ 0xFDFF) :
    storeKey (a - 0x2000) s = storeKey a s := by
  have hsub : (a - 0x2000).toNat = a.toNat - 0x2000 := by
    rw [BitVec.toNat_sub]
    show (65536 - 0x2000 + a.toNat) % 65536 = _
    omega
  rw [storeKey_echo s (ownerOf_echo h (by omega)), echoKey_eq h h',
    storeKey_plain s (.inr (.inl (ownerOf_wram (by omega) (by omega)))), hsub]

/-- Settles O25: a write of storage is a write of its key, which every address that shows it reads. -/
theorem storedBytesReadBack : Obligations.StoredBytesReadBack := by
  intro a v s
  refine ⟨fun k hk => ?_, fun hk k => ?_, fun hlo hhi => ?_, fun b k ha hk => ?_⟩
  · have hload := loadKey_of_storeKey hk
    rw [busWrite_storeKey hk]
    refine ⟨?_, fun b hb => ?_, fun b hb => ?_⟩
    · rw [busRead_writeKey, if_pos hload]
    · rw [busRead_writeKey, if_pos hb]
    · rw [busRead_writeKey, if_neg hb]
  · rw [readKey_busWrite, hk, if_neg nofun]
  · have hk := storeKey_echo s (ownerOf_echo hlo (by omega))
    have hk' := (storeKey_below_echo s hlo hhi).trans hk
    exact ⟨(busWrite_storeKey hk v).trans (busWrite_storeKey hk' v).symm,
      (busRead_storeKey hk).trans (busRead_storeKey hk').symm⟩
  · refine eq_of_storeKey ?_ hk.2 hk.1
    rcases ha with h | h | h | h | h
    · exact .inl (isPlain_of_range (.inl h))
    · exact .inl (isPlain_of_range (.inr (.inl h)))
    · exact .inl (isPlain_of_range (.inr (.inr (.inl h))))
    · exact .inr h
    · exact .inl (isPlain_of_range (.inr (.inr (.inr h))))

/-! ## The I/O page -/

/-- A read in the I/O page is an I/O read. -/
theorem busRead_io {a : Word} (s : State) (h : ownerOf a = .io) : busRead a s = ioRead a s := by
  have hr := ownerOf_range a
  simp only [h] at hr
  simp only [busRead, h, overlayHit_of_lt s (show 0xFF < a.toNat by omega), Bool.false_eq_true, if_false]

theorem busWrite_io {a : Word} (v : Byte) (s : State) (h : ownerOf a = .io) :
    busWrite a v s = ioWrite a v s := by
  simp only [busWrite, h]

/-- The holes of R94 are in the I/O page and are no register. -/
theorem ioRegister_hole {a : Word} (h : isHole a) : ownerOf a = .io ∧ ioRegister a = .hole := by
  obtain ⟨n, hn, rfl⟩ : ∃ n < 0x80, a = BitVec.ofNat 16 (0xFF00 + n) := by
    refine ⟨a.toNat - 0xFF00, ?_, BitVec.eq_of_toNat_eq ?_⟩
    · unfold isHole at h; omega
    · unfold isHole at h; rw [BitVec.toNat_ofNat]; omega
  revert n
  unfold isHole
  decide

/-- The lines of the default `JOYPAD_READ` in the words of the statements (R50). -/
theorem joypadDefault_eq (s : State) :
    (joypadMatrix ((s.p1Select >>> 4).setWidth 2) s.buttons).setWidth 8 =
      BitVec.ofNat 8 (joypadDefault s) := by
  have h4 : ((s.p1Select >>> 4).setWidth 2 : BitVec 2).getLsbD 0 = s.p1Select.getLsbD 4 := by
    simp
  have h5 : ((s.p1Select >>> 4).setWidth 2 : BitVec 2).getLsbD 1 = s.p1Select.getLsbD 5 := by
    simp
  unfold joypadMatrix joypadDefault
  rw [h4, h5]
  generalize s.p1Select.getLsbD 4 = x
  generalize s.p1Select.getLsbD 5 = y
  obtain ⟨r, l, u, d, a, b, e, t⟩ := s.buttons
  dsimp only
  revert x y r l u d a b e t
  decide

/-- `JOYPAD_READ` in the words of the statements (R50). -/
theorem joypadNibble_eq (s : State) :
    (joypadLines s.params.joypadRead ((s.p1Select >>> 4).setWidth 2) s.buttons).setWidth 8 =
      joypadNibble s := by
  unfold joypadLines joypadNibble
  cases s.params.joypadRead with
  | matrix => exact joypadDefault_eq s
  | table values =>
    dsimp only
    rw [joypadEntry_eq, List.getD_eq_getElem _ _ (by simpa using (joypadIndex _ _).isLt),
      Vector.getElem_toList]

theorem readStat_eq (p : Ppu) :
    p.readStat = 0x80 ||| (p.statEnables &&& 0x78) ||| (if p.lycEqual then 4 else 0) |||
      (if p.lcdc.getLsbD 7 then
        (match p.mode with
          | .hBlank => 0
          | .vBlank => 1
          | .oamSearch => 2
          | .pixelTransfer => 3)
      else 0) := by
  unfold Ppu.readStat
  cases p.mode <;> rfl

/-- A write-only register reads 0xFF: its mask is every bit (R52). -/
theorem orAllOnes (x : Byte) : x ||| 0xFF = 0xFF := BitVec.or_allOnes

/-- Settles O22: every address of the I/O page is an I/O read of the register at it. -/
theorem ioReadTable : Obligations.IoReadTable := by
  intro s
  have hp1 : ioRead 0xFF00 s = 0xC0 ||| s.p1Select ||| joypadNibble s := by
    rw [← joypadNibble_eq]; rfl
  simp (disch := decide) only [busRead_io]
  refine ⟨hp1, rfl, rfl, rfl, rfl, rfl, rfl, rfl, rfl, rfl, orZero _, orAllOnes _, rfl, rfl, orZero _,
    orAllOnes _, rfl, rfl, orAllOnes _, rfl, orAllOnes _, rfl, orAllOnes _, orZero _, orZero _, rfl,
    orZero _, orZero _, rfl, rfl, readStat_eq s.ppu, rfl, rfl, rfl, rfl, rfl, rfl, rfl, rfl, rfl, rfl,
    fun a hlo hhi => ?_, fun a hhole => ?_⟩
  · exact busRead_storeKey (storeKey_wave s ⟨hlo, hhi⟩)
  · obtain ⟨ho, hr⟩ := ioRegister_hole hhole
    rw [busRead_io s ho, ioRead, hr]

/-- Settles O23: every address of the I/O page is an I/O write of the register at it. -/
theorem ioWriteTable : Obligations.IoWriteTable := by
  intro v s
  simp (disch := decide) only [busWrite_io]
  refine ⟨rfl, rfl, rfl, rfl, rfl, rfl, rfl, rfl, rfl, rfl, rfl, rfl, rfl, rfl, rfl, rfl, rfl, rfl, rfl, rfl,
    rfl, rfl, rfl, rfl, rfl, rfl, rfl, rfl, rfl, rfl, rfl, rfl, rfl, rfl, rfl, rfl, rfl, rfl, rfl, rfl, rfl,
    fun a hlo hhi => ?_, fun a hhole => ?_⟩
  · exact busWrite_storeKey (storeKey_wave s ⟨hlo, hhi⟩) v
  · obtain ⟨ho, hr⟩ := ioRegister_hole hhole
    rw [busWrite_io v s ho, ioWrite, hr]

/-! ## The sound registers (R52) -/

theorem stored_store_same (d : Sound) (r : SoundReg) (v : Byte) : (d.store r v).stored r = v := by
  cases r <;> rfl

theorem stored_store_other (d : Sound) {r q : SoundReg} (v : Byte) (h : q ≠ r) :
    (d.store r v).stored q = d.stored q := by
  cases r <;> cases q <;> first | rfl | exact absurd rfl h

theorem store_nr52On (d : Sound) (r : SoundReg) (v : Byte) : (d.store r v).nr52On = d.nr52On := by
  cases r <;> rfl

/-- The address of a sound register (R52). -/
def soundAddress (r : SoundReg) : Word :=
  match r with
  | .nr10 => 0xFF10
  | .nr11 => 0xFF11
  | .nr12 => 0xFF12
  | .nr13 => 0xFF13
  | .nr14 => 0xFF14
  | .nr21 => 0xFF16
  | .nr22 => 0xFF17
  | .nr23 => 0xFF18
  | .nr24 => 0xFF19
  | .nr30 => 0xFF1A
  | .nr31 => 0xFF1B
  | .nr32 => 0xFF1C
  | .nr33 => 0xFF1D
  | .nr34 => 0xFF1E
  | .nr41 => 0xFF20
  | .nr42 => 0xFF21
  | .nr43 => 0xFF22
  | .nr44 => 0xFF23
  | .nr50 => 0xFF24
  | .nr51 => 0xFF25

theorem soundAddress_io (r : SoundReg) :
    ownerOf (soundAddress r) = .io ∧ ioRegister (soundAddress r) = .sound r := by
  cases r <;> exact ⟨rfl, rfl⟩

/-- The sound registers but NR52, in the order of their addresses. -/
def soundRegs : List SoundReg :=
  [.nr10, .nr11, .nr12, .nr13, .nr14, .nr21, .nr22, .nr23, .nr24, .nr30, .nr31, .nr32, .nr33, .nr34, .nr41,
    .nr42, .nr43, .nr44, .nr50, .nr51]

/-- Every row of the statements' table is a register's address and mask. -/
theorem soundReg_of_mem {p : Word × Byte} (h : p ∈ soundMasks) :
    ∃ r, (soundAddress r, soundMask r) = p := by
  have hrows : soundMasks = soundRegs.map fun r => (soundAddress r, soundMask r) := rfl
  obtain ⟨r, _, hp⟩ := List.mem_map.1 (hrows ▸ h)
  exact ⟨r, hp⟩

theorem busRead_sound (r : SoundReg) (s : State) :
    busRead (soundAddress r) s = s.sound.stored r ||| soundMask r := by
  obtain ⟨ho, hr⟩ := soundAddress_io r
  rw [busRead_io s ho, ioRead, hr]

theorem busWrite_sound (r : SoundReg) (v : Byte) (s : State) :
    busWrite (soundAddress r) v s = { s with sound := s.sound.store r v } := by
  obtain ⟨ho, hr⟩ := soundAddress_io r
  rw [busWrite_io v s ho, ioWrite, hr]

theorem busRead_nr52 (s : State) :
    busRead 0xFF26 s = (if s.sound.nr52On then 0x80 else 0x00) ||| 0x70 ||| s.params.audioStatus.setWidth 8 :=
  busRead_io s rfl

theorem busWrite_nr52 (v : Byte) (s : State) :
    busWrite 0xFF26 v s = { s with sound := { s.sound with nr52On := v.getLsbD 7 } } := rfl

/-- NR52 keeps bit 7 of what is written (R52). -/
theorem bit7_eq (v : Byte) : (if v.getLsbD 7 then (0x80 : Byte) else 0x00) = v &&& 0x80 := by
  revert v; decide

/-- Settles O24: a sound register's write is a store of its byte, which it alone shows. -/
theorem soundRegisterMasks : Obligations.SoundRegisterMasks := by
  refine ⟨fun v s p hp => ?_, fun v s => ⟨?_, fun q hq => ?_⟩⟩
  · obtain ⟨r, rfl⟩ := soundReg_of_mem hp
    rw [busWrite_sound]
    refine ⟨?_, fun q hq hne => ?_, ?_, _, rfl⟩
    · rw [busRead_sound, stored_store_same]
    · obtain ⟨r', rfl⟩ := soundReg_of_mem hq
      have hregs : r' ≠ r := by
        rintro rfl
        exact hne rfl
      rw [busRead_sound, busRead_sound, stored_store_other _ _ hregs]
    · rw [busRead_nr52, busRead_nr52, store_nr52On]
  · rw [busWrite_nr52, busRead_nr52, bit7_eq]
  · obtain ⟨r, rfl⟩ := soundReg_of_mem hq
    rw [busWrite_nr52, busRead_sound, busRead_sound]
    cases r <;> rfl

end Sys2Proof.Machine
end

section
/-! What a load puts in the cartridge and the byte store, and the power-on state (R54-R59, R95, R100-R103,
R114, R500). -/

namespace Sys2Proof.Machine

open Sys2Proof.Claims

/-! ## The byte store at power-on -/

/-- Cells without a key do not show in a read of it. -/
theorem read_append_of_absent {m : Memory} (n : Memory) {k : Nat} (h : KeysSatisfy (· ≠ k) m) :
    Memory.read (m ++ n) k = Memory.read n k := by
  induction m with
  | nil => rfl
  | cons c m ih =>
    have hc : c.1 ≠ k := h c (by simp)
    have hm : KeysSatisfy (· ≠ k) m := fun d hd => h d (by simp [hd])
    simp only [List.cons_append, Memory.read, hc, if_false, ih hm]

theorem read_of_absent {m : Memory} {k : Nat} (h : KeysSatisfy (· ≠ k) m) :
    Memory.read m k = unlisted k := by
  have happ := read_append_of_absent [] h
  rwa [List.append_nil] at happ

/-- Cells after the others that lack a key do not show in a read of it. -/
theorem read_append_left (m : Memory) {n : Memory} {k : Nat} (h : KeysSatisfy (· ≠ k) n) :
    Memory.read (m ++ n) k = Memory.read m k := by
  induction m with
  | nil => exact read_of_absent h
  | cons c m ih =>
    by_cases hc : c.1 = k
    · simp only [List.cons_append, Memory.read, hc, if_true]
    · simp only [List.cons_append, Memory.read, hc, if_false, ih]

/-- Consecutive cells read as the bytes they were made of. -/
theorem read_cellsFrom (k i : Nat) (vs : List Byte) :
    Memory.read (cellsFrom k vs) (k + i) = vs.getD i (unlisted (k + i)) := by
  induction vs generalizing k i with
  | nil => rfl
  | cons v vs ih =>
    have habsent : KeysSatisfy (· ≠ k) (cellsFrom (k + 1) vs) := fun c hc => by
      have := cellsFrom_keys (k + 1) vs c hc
      omega
    have hnext (j : Nat) : k + (j + 1) = k + 1 + j := by omega
    by_cases hv : v = unlisted k
    · rw [cellsFrom, if_pos hv]
      cases i with
      | zero => exact (read_of_absent habsent).trans hv.symm
      | succ j => rw [hnext j, ih, List.getD_cons_succ]
    · rw [cellsFrom, if_neg hv]
      cases i with
      | zero => exact if_pos rfl
      | succ j =>
        have hne : k ≠ k + (j + 1) := by omega
        rw [Memory.read, if_neg hne, hnext j, ih, List.getD_cons_succ]

/-- The ROM of a power-on is the image, padded with 0xFF and cut to the ROM size (R103). -/
theorem read_powerOnMemory_rom (cart : Cart) (image : List Byte) {overlay : List Byte}
    (ram : List Host.Cell) (ho : overlay.length ≤ 256) {i : Nat} (hi : i < cart.romSize) :
    Memory.read (powerOnMemory cart image overlay ram) (romBase + i) = imageByte image i := by
  have habsent : KeysSatisfy (· ≠ romBase + i) (cellsFrom 0 overlay ++ Memory.ofCells (ramCells ram)) := by
    intro c hc
    rcases List.mem_append.1 hc with hc | hc
    · have := cellsFrom_keys 0 overlay c hc
      unfold romBase
      omega
    · have := ramCells_keys ram c hc
      omega
  rw [powerOnMemory, read_append_of_absent _ habsent, read_cellsFrom]
  rw [imageByte, List.getD_eq_getElem?_getD, List.getD_eq_getElem?_getD, List.getElem?_take, if_pos hi]
  rw [unlisted, if_pos (Nat.le_add_right _ _)]

/-- The overlay of a power-on stands at its bus addresses (R95). -/
theorem read_powerOnMemory_overlay (cart : Cart) (image : List Byte) (overlay : Vector Byte 256)
    (ram : List Host.Cell) (i : Fin 256) :
    Memory.read (powerOnMemory cart image overlay.toList ram) i = overlay.get i := by
  have hrom : KeysSatisfy (· ≠ (i : Nat)) (cellsFrom romBase (image.take cart.romSize)) := fun c hc => by
    have hkey := cellsFrom_keys romBase _ c hc
    have hi := i.isLt
    unfold romBase at hkey
    omega
  have hram : KeysSatisfy (· ≠ (i : Nat)) (Memory.ofCells (ramCells ram)) := fun c hc => by
    have hkey := ramCells_keys ram c hc
    have hi := i.isLt
    omega
  have hcells := read_cellsFrom 0 i overlay.toList
  rw [Nat.zero_add] at hcells
  rw [powerOnMemory, read_append_left _ hrom, read_append_left _ hram, hcells,
    List.getD_eq_getElem _ _ (by simp), Vector.getElem_toList]
  rfl

/-! ## The header -/

/-- A byte that a table looks up stands in it. -/
theorem mem_of_lookup {α : Type} {l : List (Byte × α)} {b : Byte} {v : α} (h : l.lookup b = some v) :
    (b, v) ∈ l := by
  obtain ⟨l₁, l₂, rfl, _⟩ := List.lookup_eq_some_iff.1 h
  simp

/-- A row of the default ROM sizes (R101). -/
theorem romSize_of_mem {b : Byte} {n : Nat} (h : (b, n) ∈ HeaderTables.default.romSizes) :
    n = 32768 * 2 ^ b.toNat := by
  obtain ⟨m, hm, heq⟩ := List.mem_map.1 h
  cases heq
  have hm := List.mem_range.1 hm
  rw [BitVec.toNat_ofNat, Nat.mod_eq_of_lt (by omega)]

/-- A byte of a whole header, with the padding that stands for missing ones. -/
theorem header_byte {image : List Byte} (h : 0x150 ≤ image.length) {i : Nat} (hi : i < 0x150) :
    image.getD i 0 = imageByte image i := by
  rw [imageByte, List.getD_eq_getElem _ _ (by omega), List.getD_eq_getElem _ _ (by omega)]

/-- Settles O58: both power-on states have the header's cartridge and the image's byte store. -/
theorem loadedCartridge : Obligations.LoadedCartridge := by
  intro args image s himage hload
  obtain ⟨image', cart, himage', hcart, hs⟩ := load_cases hload
  obtain rfl : image = image' := Option.some.inj (himage.symm.trans himage')
  obtain ⟨hlen, v, romSize, ramSize, rfl, hv, hrom, hram⟩ := cartOfHeader_cases hcart
  rw [header_byte hlen (by decide)] at hv hrom hram
  have hsc : s.cart = Cart.powerOn v romSize ramSize := by
    rcases hs with ⟨_, rfl⟩ | ⟨_, _, rfl⟩ <;> rfl
  have hbytes : ∀ i < romSize, s.readKey (romBase + i) = imageByte image i := by
    rcases hs with ⟨_, rfl⟩ | ⟨overlay, _, rfl⟩
    · exact fun i hi => read_powerOnMemory_rom _ image _ (by decide) hi
    · exact fun i hi => read_powerOnMemory_rom _ image _ (by simp) hi
  have hoverlay : ∀ o : Vector Byte 256, args.overlay = some o → ∀ i : Fin 256, s.readKey i = o.get i := by
    intro o ho
    rcases hs with ⟨hnone, _⟩ | ⟨o', ho', rfl⟩
    · rw [hnone] at ho; cases ho
    · obtain rfl : o = o' := Option.some.inj (ho.symm.trans ho')
      exact fun i => read_powerOnMemory_overlay _ image o _ i
  rw [hsc]
  refine ⟨hv, hrom, hram, fun ht => ?_, rfl, rfl, rfl, rfl, hbytes, hoverlay⟩
  rw [ht] at hv hrom hram
  have hsize : romSize = 32768 * 2 ^ (imageByte image 0x148).toNat := romSize_of_mem (mem_of_lookup hrom)
  refine ⟨mem_of_lookup hv, hsize, ?_, mem_of_lookup hram⟩
  show romSize / 16384 = _
  omega

/-! ## The power-on state -/

/-- The sound snapshot shows the stored byte of a sound register (R470). -/
theorem soundSnapshot_sound (s : State) (r : SoundReg) :
    (soundSnapshot s).getD ((soundAddress r).toNat - 0xFF10) 0 = s.sound.stored r := by
  have hr : ioRegAt ((soundAddress r).toNat % 0x100) = .sound r := (soundAddress_io r).2
  have hrange : 0xFF10 ≤ (soundAddress r).toNat ∧ (soundAddress r).toNat < 0xFF40 := by
    cases r <;> decide
  have hindex : (soundAddress r).toNat % 0x100 = 0x10 + ((soundAddress r).toNat - 0xFF10) := by omega
  rw [hindex] at hr
  rw [soundSnapshot, List.getD_eq_getElem _ _ (by rw [List.length_map, List.length_range]; omega)]
  simp only [List.getElem_map, List.getElem_range, hr]

/-- The bytes of R57 have the bits that a read forces high. -/
theorem soundReset_masked (r : SoundReg) : Sound.reset.stored r ||| soundMask r = Sound.reset.stored r := by
  cases r <;> decide

/-- What P1 reads at power-on without the overlay, for any `JOYPAD_READ` (R50). -/
theorem p1_powerOnPlain (args : LoadArgs) (cart : Cart) (image : List Byte) :
    ∃ x : BitVec 4, busRead 0xFF00 (powerOnPlain args cart image) = 0xC0 ||| 0x00 ||| x.setWidth 8 ∧
      (args.params.joypadRead = .matrix → x = 0xF) := by
  refine ⟨joypadLines args.params.joypadRead (((0x00 : Byte) >>> 4).setWidth 2) Buttons.none,
    busRead_io _ rfl, fun h => ?_⟩
  rw [h]
  rfl

/-- The bits of P1 above the lines (R50). -/
theorem p1_high (x : BitVec 4) : (0xC0 ||| 0x00 ||| x.setWidth 8 : Byte) &&& 0xF0 = 0xC0 := by
  revert x; decide

/-- The registers with a read value of their own, and IE, at power-on without the overlay (R57). -/
theorem ioReads_powerOnPlain (args : LoadArgs) (cart : Cart) (image : List Byte) :
    ∀ p ∈ ([(0xFF01, 0x00), (0xFF02, 0x7E), (0xFF04, 0xAB), (0xFF05, 0x00),
          (0xFF06, 0x00), (0xFF07, 0xF8), (0xFF0F, 0xE1), (0xFFFF, 0x00), (0xFF40, 0x91),
          (0xFF41, 0x86), (0xFF42, 0x00), (0xFF43, 0x00), (0xFF44, 0x00), (0xFF45, 0x00),
          (0xFF46, 0xFF), (0xFF47, 0xFC), (0xFF4A, 0x00), (0xFF4B, 0x00)] : List (Word × Byte)),
      busRead p.1 (powerOnPlain args cart image) = p.2 := by
  have hie : busRead 0xFFFF (powerOnPlain args cart image) = 0x00 := rfl
  have hstat : ioRead 0xFF41 (powerOnPlain args cart image) = 0x86 := by
    show 0x80 ||| ((0x00 : Byte) &&& 0x78) ||| 0x04 |||
      (if (0x91 : Byte).getLsbD 7 then PpuMode.oamSearch.number else 0) = 0x86
    decide
  have hsc : (0x00 : Byte) ||| 0x7E = 0x7E := by decide
  have htac : (0x00 : Byte) ||| 0xF8 = 0xF8 := by decide
  have hif : (0x01 : Byte) ||| 0xE0 = 0xE1 := by decide
  simp (disch := decide) only [List.forall_mem_cons, List.not_mem_nil, false_implies, implies_true, and_true,
    busRead_io, hie, hstat, true_and]
  exact ⟨rfl, hsc, rfl, rfl, rfl, htac, hif, rfl, rfl, rfl, rfl, rfl, rfl, rfl, rfl, rfl⟩

/-- The sound registers at power-on without the overlay, read through the bus and in the snapshot (R57). -/
theorem soundReads_powerOnPlain (args : LoadArgs) (cart : Cart) (image : List Byte) :
    ∀ p ∈ soundRegs.map fun r => (soundAddress r, Sound.reset.stored r),
      busRead p.1 (powerOnPlain args cart image) = p.2 ∧
        (soundSnapshot (powerOnPlain args cart image)).getD (p.1.toNat - 0xFF10) 0 = p.2 := by
  intro p hp
  obtain ⟨r, _, rfl⟩ := List.mem_map.1 hp
  exact ⟨(busRead_sound r _).trans (soundReset_masked r), soundSnapshot_sound _ r⟩

/-- Settles O59: each power-on state is written out, and the I/O page is read register by register. -/
theorem powerOnState : Obligations.PowerOnState := by
  intro args s hload
  obtain ⟨image, cart, _, _, ⟨hover, rfl⟩ | ⟨overlay, hover, rfl⟩⟩ := load_cases hload
  · have hregs : word Cpu.reset.a Cpu.reset.f = 0x01B0 ∧ word Cpu.reset.b Cpu.reset.c = 0x0013 ∧
        word Cpu.reset.d Cpu.reset.e = 0x00D8 ∧ word Cpu.reset.h Cpu.reset.l = 0x014D := by decide
    obtain ⟨haf, hbc, hde, hhl⟩ := hregs
    obtain ⟨x, hp1, hmatrix⟩ := p1_powerOnPlain args cart image
    refine ⟨rfl, rfl, rfl, rfl, rfl, rfl, rfl, rfl, rfl, rfl, rfl, rfl, rfl, rfl, rfl, rfl,
      fun _ => ⟨haf, hbc, hde, hhl, rfl, rfl, rfl, rfl, ?_, fun hm => ?_, ioReads_powerOnPlain args cart image,
        soundReads_powerOnPlain args cart image, ?_⟩, fun v hv => ?_⟩
    · rw [hp1, p1_high]
    · rw [hp1, hmatrix hm]; rfl
    · have hnr52 : (0x80 : Byte) ||| 0x70 = 0xF0 := by decide
      rw [← hnr52]
      exact busRead_nr52 _
    · rw [hover] at hv; cases hv
  · refine ⟨rfl, rfl, rfl, rfl, rfl, rfl, rfl, rfl, rfl, rfl, rfl, rfl, rfl, rfl, rfl, rfl,
      fun h => ?_, fun v _ => ⟨rfl, rfl, rfl, rfl, rfl, rfl, rfl, rfl, rfl, rfl, rfl, rfl⟩⟩
    rw [hover] at h; cases h

end Sys2Proof.Machine
end

section
/-! The operand fields (R142-R146), and a push undone by a pop (R200, R201, R205, R206). -/

namespace Sys2Proof.Machine

open Sys2Proof.Claims

/-- Settles O28: a word is its two bytes, and every operand is its own field. -/
theorem operandFields : Obligations.OperandFields := by
  intro s v w
  simp only [word_eq, high_eq, low_eq]
  exact ⟨rfl, rfl, rfl, rfl, rfl, rfl, rfl, rfl, rfl, rfl, rfl, rfl, rfl, rfl, rfl, rfl, rfl, rfl, rfl, rfl,
    rfl, rfl, rfl, rfl, rfl, rfl, rfl, rfl, rfl, rfl, rfl, rfl, rfl, rfl, rfl, rfl, rfl, rfl, rfl, rfl⟩

/-! ## A push undone by a pop -/

/-- Where the stack lies in storage, a push stores two bytes and moves SP (R200). -/
theorem push16_storage {s : State} {k l : Nat} (hk : storeKey (s.cpu.sp - 1) s = some k)
    (hl : storeKey (s.cpu.sp - 2) s = some l) (v : Word) :
    push16 v s = { (s.writeKey k (hiByte v)).writeKey l (loByte v) with
      cpu := { s.cpu with sp := s.cpu.sp - 2 } } := by
  have hl' : storeKey (s.cpu.sp - 2) (s.writeKey k (hiByte v)) = some l := by rw [storeKey_writeKey, hl]
  rw [push16_eq, busWrite_storeKey hk, busWrite_storeKey hl']

/-- A push changes no address's key. -/
theorem storeKey_push16 {s : State} {k l : Nat} (hk : storeKey (s.cpu.sp - 1) s = some k)
    (hl : storeKey (s.cpu.sp - 2) s = some l) (v a : Word) : storeKey a (push16 v s) = storeKey a s := by
  rw [push16_storage hk hl, storeKey_setCpu, storeKey_writeKey, storeKey_writeKey]

/-- The word at the top of the stack after a push is the pushed one (R200, R201). -/
theorem pop16Value_push16 {s : State} {k l : Nat} (hk : storeKey (s.cpu.sp - 1) s = some k)
    (hl : storeKey (s.cpu.sp - 2) s = some l) (hne : k ≠ l) (v : Word) : pop16Value (push16 v s) = v := by
  have hsp : (push16 v s).cpu.sp = s.cpu.sp - 2 := by rw [push16_eq]
  have hsucc : s.cpu.sp - 2 + 1 = s.cpu.sp - 1 := by
    bv_omega
  have hhigh : busRead (s.cpu.sp - 1) (push16 v s) = hiByte v := by
    rw [busRead_storeKey ((storeKey_push16 hk hl v _).trans hk), readKey_push16 hk hl, if_neg hne, if_pos rfl]
  have hlow : busRead (s.cpu.sp - 2) (push16 v s) = loByte v := by
    rw [busRead_storeKey ((storeKey_push16 hk hl v _).trans hl), readKey_push16 hk hl, if_pos rfl]
  rw [pop16Value, busRead16, hsp, hsucc, hhigh, hlow, mkWord_bytes]

/-- Masking the low byte of a word is masking the word. -/
theorem mkWord_and_low (hi lo : Byte) : mkWord hi (lo &&& 0xF0) = mkWord hi lo &&& 0xFFF0 := by
  have hmask : (0xFFF0 : Word) = mkWord 0xFF 0xF0 := by decide
  have hhi : hi &&& 0xFF = hi := BitVec.and_allOnes
  rw [hmask, mkWord, mkWord, mkWord, BitVec.and_append, hhi]

/-- A pair reads back what was written to it, but for F's low nibble (R25). -/
theorem getStk_setStk (q : R16Stk) (w : Word) (s : State) :
    getStk q (setStk q w s) = if q = .AF then w &&& 0xFFF0 else w := by
  cases q
  case AF =>
    calc getStk .AF (setStk .AF w s) = mkWord (hiByte w) (loByte w &&& 0xF0) := rfl
      _ = w &&& 0xFFF0 := by rw [mkWord_and_low, mkWord_bytes]
  all_goals exact mkWord_bytes w

theorem exec_push (p : R16Stk) (s : State) : exec (.push p) s = .next (push p s) := by
  rw [exec_form]
  cases p <;> rfl

theorem exec_pop (q : R16Stk) (s : State) : exec (.pop q) s = .next (pop q s) := by
  rw [exec_form]
  cases q <;> rfl

/-- Ending an instruction leaves the top of the stack. -/
theorem pop16Value_retire (s : State) (pc : Word) (n : Nat) : pop16Value (s.retire pc n) = pop16Value s := by
  simp only [pop16Value, busRead16, State.retire, busRead_withCpu]

/-- A pair's write leaves SP. -/
theorem setStk_sp (q : R16Stk) (w : Word) (s : State) : (setStk q w s).cpu.sp = s.cpu.sp := by
  cases q <;> rfl

theorem getStk_advance (q : R16Stk) (s : State) (len n : Nat) : getStk q (s.advance len n) = getStk q s := by
  cases q <;> rfl

/-- Settles O34: the pushed word is at the top of the stack, and the pop writes it to its pair. -/
theorem popGivesBackWhatPushStored : Obligations.PopGivesBackWhatPushStored := by
  intro s p q k l hk hl hne
  have htop : pop16Value (push p s) = getStk p s :=
    (pop16Value_retire _ _ _).trans (pop16Value_push16 hk hl hne _)
  have hsp : (push p s).cpu.sp = s.cpu.sp - 2 := by
    show (push16 (getStk p s) s).cpu.sp = _
    rw [push16_eq]
  refine ⟨_, _, exec_push p s, exec_pop q _, ?_, htop, ?_⟩
  · show (setStk q _ (pop16 (push p s))).cpu.sp = _
    rw [setStk_sp]
    show (push p s).cpu.sp + 2 = _
    rw [hsp, BitVec.sub_add_cancel]
  · rw [pop, getStk_advance, getStk_setStk, htop]

end Sys2Proof.Machine
end

section
/-! The bank state (R115): the addresses an instruction's bus writes are at, said once for every form, and that
no other part of a step writes below 0x8000. -/

namespace Sys2Proof.Machine

open Sys2Proof.Claims

/-! ## Bus writes at listed addresses -/

/-- `t` is `s` after bus writes at the listed addresses, in their order. -/
inductive WritesAt : List Word → State → State → Prop where
  | nil (s : State) : WritesAt [] s s
  | cons (a : Word) (v : Byte) {as : List Word} {s t : State} (next : WritesAt as (busWrite a v s) t) :
      WritesAt (a :: as) s t

/-- `t` is `s` after bus writes at the listed addresses, but for the CPU and the reported cost. -/
def Stores (as : List Word) (s t : State) : Prop :=
  ∃ u, WritesAt as s u ∧ t = { u with cpu := t.cpu, cycles := t.cycles }

theorem busWrite_cart_of_le {a : Word} (h : 0x8000 ≤ a.toNat) (v : Byte) (s : State) :
    (busWrite a v s).cart = s.cart := by
  rw [busWrite_cart, if_neg (Nat.not_lt.2 h)]

/-- Bus writes from 0x8000 up leave the bank state (R115). -/
theorem WritesAt.cart {as : List Word} {s t : State} (h : WritesAt as s t)
    (hr : ∀ a ∈ as, 0x8000 ≤ a.toNat) : t.cart = s.cart := by
  induction h with
  | nil s => rfl
  | cons a v _ ih =>
    obtain ⟨ha, has⟩ := List.forall_mem_cons.1 hr
    rw [ih has, busWrite_cart_of_le ha]

theorem Stores.cart {as : List Word} {s t : State} (h : Stores as s t)
    (hr : ∀ a ∈ as, 0x8000 ≤ a.toNat) : t.cart = s.cart := by
  obtain ⟨u, hw, ht⟩ := h
  rw [ht]
  exact hw.cart hr

theorem Stores.refl (s : State) : Stores [] s s := ⟨s, .nil s, rfl⟩

theorem Stores.withCpu {as : List Word} {s t : State} (h : Stores as s t) (c : Cpu) (n : Nat) :
    Stores as s { t with cpu := c, cycles := n } := by
  obtain ⟨u, hw, ht⟩ := h
  exact ⟨u, hw, by rw [ht]⟩

/-- A change of the CPU and the cost alone stores nothing. -/
theorem stores_nothing (s : State) (c : Cpu) (n : Nat) : Stores [] s { s with cpu := c, cycles := n } :=
  (Stores.refl s).withCpu c n

theorem stores_busWrite {a b : Word} (h : a = b) (v : Byte) (s : State) : Stores [b] s (busWrite a v s) := by
  subst h
  exact ⟨_, .cons a v (.nil _), rfl⟩

theorem stores_busWrite16 (a v : Word) (s : State) : Stores [a, a + 1] s (busWrite16 a v s) :=
  ⟨_, .cons a (loByte v) (.cons (a + 1) (hiByte v) (.nil _)), rfl⟩

/-- A push stores below SP, the higher address first (R200). -/
theorem stores_push16 (v : Word) (s : State) : Stores (belowSP s) s (push16 v s) := by
  rw [push16_eq]
  exact ⟨_, .cons _ _ (.cons _ _ (.nil _)), rfl⟩

/-! ## The store addresses of a form -/

/-- The addresses a write of an `r8` operand stores to (R142). -/
def r8StoreAddresses (r : R8) (s : State) : List Word :=
  match r with
  | .mHL => [word s.cpu.h s.cpu.l]
  | _ => []

theorem stores_set8 (r : R8) (v : Byte) (s : State) : Stores (r8StoreAddresses r s) s (set8 r v s) := by
  cases r
  case mHL => exact stores_busWrite (word_eq _ _).symm v s
  all_goals exact stores_nothing s _ s.cycles

/-- The addresses that the CB-table instruction of a second byte stores to: (HL), but by BIT (R154). -/
def cbStoreAddresses (b : Byte) (s : State) : List Word :=
  if b.toNat % 8 = 6 ∧ b.toNat / 64 ≠ 1 then [word s.cpu.h s.cpu.l] else []

/-- The addresses that running a form stores to, in their order. -/
def Form.storeAddresses (f : Form) (s : State) : List Word :=
  match f with
  | .loadR8 r _ | .loadN8 r _ | .incR8 r | .decR8 r | .rotateR8 _ r | .resetBitR8 _ r | .setBitR8 _ r =>
    r8StoreAddresses r s
  | .storeMem .BC => [word s.cpu.b s.cpu.c]
  | .storeMem .DE => [word s.cpu.d s.cpu.e]
  | .storeMem .HLi | .storeMem .HLd => [word s.cpu.h s.cpu.l]
  | .storeHigh n => [BitVec.ofNat 16 (0xFF00 + n.toNat)]
  | .storeHighC => [BitVec.ofNat 16 (0xFF00 + s.cpu.c.toNat)]
  | .storeAbs a => [a]
  | .storeSP a => [a, a + 1]
  | .push _ | .call _ | .restart _ => belowSP s
  | .callIf c _ => if condition c s then belowSP s else []
  | .prefixCB => cbStoreAddresses (busRead (fetchAt s 1) s) s
  | _ => []

/-- The store addresses of an instruction are those of its form. -/
theorem storeAddresses_eq (i : Instr) (s : State) : storeAddresses i s = (formOf i).storeAddresses s := by
  cases i <;> rfl

theorem r8StoreAddresses_ofCode (n : Nat) (s : State) :
    r8StoreAddresses (.ofCode n) s = if n = 6 then [word s.cpu.h s.cpu.l] else [] := by
  unfold R8.ofCode
  split <;> simp_all [r8StoreAddresses]

theorem cbStoreAddresses_bit {b : Byte} (h : fieldX b = 1) (s : State) : cbStoreAddresses b s = [] :=
  if_neg fun hs => hs.2 h

theorem cbStoreAddresses_set8 {b : Byte} (h : fieldX b ≠ 1) (s : State) :
    cbStoreAddresses b s = r8StoreAddresses (.ofCode (fieldZ b)) s := by
  have hx : b.toNat / 64 ≠ 1 := h
  simp only [cbStoreAddresses, r8StoreAddresses_ofCode, fieldZ, hx, ne_eq, not_false_eq_true, and_true]

/-- Every operation of the CB table but BIT writes its operand (R274, R283-R285). -/
theorem stores_cbTable (b : Byte) (s : State) : Stores (cbStoreAddresses b s) s (cbTable b s) := by
  unfold cbTable
  split
  case h_1 hx => rw [cbStoreAddresses_set8 (by omega)]; exact (stores_set8 _ _ s).withCpu _ _
  case h_2 hx => rw [cbStoreAddresses_bit hx]; exact stores_nothing s _ _
  case h_3 hx => rw [cbStoreAddresses_set8 (by omega)]; exact (stores_set8 _ _ s).withCpu _ _
  case h_4 hx _ => rw [cbStoreAddresses_set8 hx]; exact (stores_set8 _ _ s).withCpu _ _

/-- A conditional form that stores nothing. -/
theorem stores_branch {c : Cond} {s t u : State} (ht : Stores [] s t) (hu : Stores [] s u) :
    Stores [] s (if condHolds c s then t else u) := by
  split
  · exact ht
  · exact hu

theorem stores_memPost {as : List Word} {s t : State} (h : Stores as s t) (m : R16Mem) (pc : Word) (n : Nat) :
    Stores as s ((memPost m t).retire pc n) := by
  rw [memPost_eq]
  exact h.withCpu _ _

theorem stores_halt (s : State) : Stores [] s (halt s) := by
  unfold halt haltBug
  split
  · split <;> exact stores_nothing s _ _
  · exact stores_nothing s _ _

/-- What a completed form stores: bytes at its store addresses, in their order. -/
theorem form_stores {f : Form} {s t : State} (h : f.run s = .next t) : Stores (f.storeAddresses s) s t := by
  cases f <;> simp only [Form.run, stopFault, illegalByte, Host.Outcome.next.injEq, reduceCtorEq] at h <;>
    subst h
  case loadR8 d r => exact (stores_set8 d _ s).withCpu _ _
  case loadN8 d n => exact (stores_set8 d _ s).withCpu _ _
  case incR8 r => exact (stores_set8 r _ s).withCpu _ _
  case decR8 r => exact (stores_set8 r _ s).withCpu _ _
  case rotateR8 o r => exact (stores_set8 r _ s).withCpu _ _
  case resetBitR8 u r => exact (stores_set8 r _ s).withCpu _ _
  case setBitR8 u r => exact (stores_set8 r _ s).withCpu _ _
  case prefixCB =>
    rw [Form.storeAddresses, fetchAt_eq]
    exact stores_cbTable _ s
  case loadMem m => exact stores_memPost (stores_nothing s _ s.cycles) m _ _
  case storeMem m => cases m <;> exact stores_memPost (stores_busWrite (word_eq _ _).symm _ s) _ _ _
  case storeHigh n => exact (stores_busWrite (highPage_eq n).symm _ s).withCpu _ _
  case storeHighC => exact (stores_busWrite (highPage_eq s.cpu.c).symm _ s).withCpu _ _
  case storeAbs a => exact (stores_busWrite rfl _ s).withCpu _ _
  case storeSP a => exact (stores_busWrite16 a _ s).withCpu _ _
  case push p => exact (stores_push16 _ s).withCpu _ _
  case call a => exact (stores_push16 _ s).withCpu _ _
  case restart u => exact (stores_push16 _ s).withCpu _ _
  case callIf c a =>
    rw [Form.storeAddresses, condition_eq, callIf]
    split
    · exact (stores_push16 _ s).withCpu _ _
    · exact stores_nothing s _ _
  case jumpIf c a => exact stores_branch (stores_nothing s _ _) (stores_nothing s _ _)
  case jumpRelIf c e => exact stores_branch (stores_nothing s _ _) (stores_nothing s _ _)
  case retIf c => exact stores_branch (stores_nothing s _ _) (stores_nothing s _ _)
  case halt => exact stores_halt s
  case loadN16 rr n => cases rr <;> exact stores_nothing s _ _
  case incR16 rr => cases rr <;> exact stores_nothing s _ _
  case decR16 rr => cases rr <;> exact stores_nothing s _ _
  case pop p => cases p <;> exact stores_nothing s _ _
  case enableInterrupts =>
    unfold enableInterrupts
    split <;> exact stores_nothing s _ _
  all_goals exact stores_nothing s _ _

/-- What a completed instruction stores. -/
theorem exec_stores {i : Instr} {s t : State} (h : exec i s = .next t) : Stores (storeAddresses i s) s t := by
  rw [storeAddresses_eq]
  exact form_stores ((exec_form i s).symm.trans h)

/-! ## The rest of a step -/

/-- The devices leave the cartridge (R405). -/
theorem deviceStep_cart (s : State) : (deviceStep s).cart = s.cart := by
  obtain ⟨_, _, _, _, _, _, ht⟩ := timerStep_eq s.cycles s
  obtain ⟨_, _, hd, _⟩ := dmaStep_eq s.cycles (timerStep s.cycles s)
  obtain ⟨_, _, hp, _⟩ := ppuStep_effect s.cycles (dmaStep s.cycles (timerStep s.cycles s))
  rw [deviceStep, hp, hd, ht]

/-- Settles O20: a store below 0x8000 is the one way to the bank state, and no other part of a step takes it. -/
theorem bankStateChangesOnlyByControlWrites : Obligations.BankStateChangesOnlyByControlWrites := by
  refine ⟨fun a v s ha => busWrite_cart_of_le ha v s, fun i s t h ha => (exec_stores h).cart ha,
    fun s h1 h2 => ?_, fun s t hr h => ?_, fun s => ?_⟩
  · have hpush := stores_push16 s.cpu.pc ((s.clearIF (lowestBit s.pendingBits)).setIME false)
    exact hpush.cart (by simpa [belowSP] using ⟨h1, h2⟩)
  · rw [cpuStep_halted hr] at h
    cases h
    rw [haltedStep_eq, overlayCheck_eq]
  · rw [devices_eq, deviceStep_cart]

end Sys2Proof.Machine
end

section
/-! The cartridge in natural numbers: the RAM window (R105) and the control writes of the three bank
controllers (R107, R109, R112, R113). -/

namespace Sys2Proof.Machine

/-! ## The RAM window -/

theorem ramAccessible_iff (c : Cart) :
    c.ramAccessible = true ↔ 0 < c.ramSize ∧ (c.variant = .none ∨ c.ramEnable = true) := by
  simp only [Cart.ramAccessible, Bool.and_eq_true, Bool.or_eq_true, decide_eq_true_eq]

/-- The window starts at a multiple of its size, so an address's remainder is its place in the window. -/
theorem ramKey_eq {a : Word} (c : Cart) (h : 0xA000 ≤ a.toNat) (h' : a.toNat ≤ 0xBFFF) :
    c.ramKey a = 0x10000 + (c.ramBank.toNat % max 1 (c.ramSize / 8192) * 0x2000 +
      (a.toNat - 0xA000)) % c.ramSize := by
  have hplace : a.toNat % 0x2000 = a.toNat - 0xA000 := by omega
  rw [Cart.ramKey, Cart.ramIndex, hplace]
  rfl

/-- Settles O26: the window is storage where it is accessible, and owns no byte where it is not. -/
theorem cartridgeRamWindow : Obligations.CartridgeRamWindow := by
  intro a v s hlo hhi
  have ho := ownerOf_cartRam hlo (by omega)
  rw [← ramAccessible_iff, ← ramKey_eq s.cart hlo hhi]
  refine ⟨fun hacc => ?_, fun hacc => ?_⟩
  · have hk : storeKey a s = some (s.cart.ramKey a) := by simp only [storeKey, ho, hacc, if_true]
    refine ⟨busRead_storeKey hk, busWrite_storeKey hk v, ?_⟩
    rw [busWrite_storeKey hk, busRead_writeKey, if_pos (loadKey_of_storeKey hk)]
  · simp only [busRead, busWrite, ho, overlayHit_of_lt s (show 0xFF < a.toNat by omega), hacc,
      Bool.false_eq_true, if_false, and_self]

/-! ## Bank registers as numbers -/

/-- A mask of the low `k` bits is a remainder. -/
theorem toNat_and_low {w : Nat} (x : BitVec w) {k : Nat} (h : k ≤ w) :
    (x &&& BitVec.ofNat w (2 ^ k - 1)).toNat = x.toNat % 2 ^ k := by
  have hmask : 2 ^ k - 1 < 2 ^ w :=
    lt_of_lt_of_le (Nat.sub_lt (Nat.two_pow_pos k) Nat.one_pos) (Nat.pow_le_pow_right (by decide) h)
  rw [BitVec.toNat_and, BitVec.toNat_ofNat, Nat.mod_eq_of_lt hmask, Nat.and_two_pow_sub_one_eq_mod]

/-- High bits and low bits that do not meet are a sum. -/
theorem or_eq_ofNat {w : Nat} {x y : BitVec w} {i m n : Nat} (hx : x.toNat = 2 ^ i * m) (hy : y.toNat = n)
    (hn : n < 2 ^ i) : x ||| y = BitVec.ofNat w (2 ^ i * m + n) := by
  have hor : (x ||| y).toNat = 2 ^ i * m + n := by
    rw [BitVec.toNat_or, hx, hy, Nat.two_pow_add_eq_or_of_lt hn]
  rw [← hor, BitVec.ofNat_toNat, BitVec.setWidth_eq]

/-- Bits 6 and 5 of the ROM bank register, which the first range of Variant A keeps (R109). -/
theorem bank_middle : ∀ bank : BitVec 9, (bank &&& 0x60).toNat = 2 ^ 5 * (bank.toNat / 32 % 4) := by decide

/-- Bit 8 of the ROM bank register, which the first range of Variant C keeps (R113). -/
theorem bank_high : ∀ bank : BitVec 9, (bank &&& 0x100).toNat = 2 ^ 8 * (bank.toNat / 256) := by decide

/-- A byte with 1 for 0, as a number. -/
theorem toNat_oneForZero (v : Byte) : (if v = 0 then (1 : Byte) else v).toNat = max 1 v.toNat := by
  split
  case isTrue h => rw [h]; rfl
  case isFalse h =>
    have hne : v.toNat ≠ 0 := fun hz => h (BitVec.eq_of_toNat_eq hz)
    omega

theorem toNat_setWidth9 (v : Byte) : (v.setWidth 9).toNat = v.toNat :=
  BitVec.toNat_setWidth_of_le (by decide)

/-- Low bits of a byte moved up in the ROM bank register. -/
theorem toNat_shifted (v : Byte) {k i : Nat} (hk : k ≤ 8) (hi : k + i ≤ 9) :
    ((v &&& BitVec.ofNat 8 (2 ^ k - 1)).setWidth 9 <<< i).toNat = 2 ^ i * (v.toNat % 2 ^ k) := by
  have hlt : v.toNat % 2 ^ k < 2 ^ k := Nat.mod_lt _ (Nat.two_pow_pos k)
  have hbound : 2 ^ i * (v.toNat % 2 ^ k) < 2 ^ 9 :=
    calc 2 ^ i * (v.toNat % 2 ^ k) < 2 ^ i * 2 ^ k := Nat.mul_lt_mul_of_pos_left hlt (Nat.two_pow_pos i)
      _ = 2 ^ (k + i) := by rw [← Nat.pow_add, Nat.add_comm]
      _ ≤ 2 ^ 9 := Nat.pow_le_pow_right (by decide) hi
  rw [BitVec.toNat_shiftLeft, toNat_setWidth9, toNat_and_low v hk, Nat.shiftLeft_eq, Nat.mul_comm,
    Nat.mod_eq_of_lt hbound]

/-! ## The control writes -/

/-- A write below 0x8000 is a control write and changes the bank state alone (R91). -/
theorem busWrite_control {a : Word} (h : a.toNat < 0x8000) (v : Byte) (s : State) :
    busWrite a v s = { s with cart := s.cart.control s.params.mbcCZeroRemap a v } := by
  simp only [busWrite, ownerOf_rom h]

/-- RAM enable (R107). -/
theorem control_ramEnable {a : Word} {c : Cart} (hc : c.variant ≠ .none) (h : a.toNat < 0x2000) (z : Bool)
    (v : Byte) : c.control z a v = { c with ramEnable := decide (v.toNat % 16 = 10) } := by
  have hen : (v &&& 0x0F = 0x0A) = (v.toNat % 16 = 10) := by
    rw [BitVec.toNat_inj.symm]
    exact congrArg (· = 10) (toNat_and_low v (k := 4) (by decide))
  have hw : c.writeRamEnable v = { c with ramEnable := decide (v.toNat % 16 = 10) } := by
    simp only [Cart.writeRamEnable, hen]
  rw [← hw]
  cases hv : c.variant
  case none => exact absurd hv hc
  all_goals simp only [Cart.control, hv, Cart.controlA, Cart.controlB, Cart.controlC, h, if_true]

/-! ### Variant A (R109) -/

theorem busWrite_A {a : Word} {s : State} (hv : s.cart.variant = .A) (h : a.toNat < 0x8000) (v : Byte) :
    busWrite a v s = { s with cart := s.cart.controlA a v } := by
  simp only [busWrite_control h, Cart.control, hv]

theorem controlA_romLow {a : Word} (h : 0x2000 ≤ a.toNat) (h' : a.toNat ≤ 0x3FFF) (v : Byte) (c : Cart) :
    c.controlA a v = { c with
      romBank := BitVec.ofNat 9 (32 * (c.romBank.toNat / 32 % 4) + max 1 (v.toNat % 32)) } := by
  have hlow : (v &&& 0x1F).toNat = v.toNat % 32 := toNat_and_low v (k := 5) (by decide)
  have hnew : ((if v &&& 0x1F = 0 then (1 : Byte) else v &&& 0x1F).setWidth 9).toNat = max 1 (v.toNat % 32) := by
    rw [toNat_setWidth9, toNat_oneForZero, hlow]
  rw [Cart.controlA, if_neg (by omega), if_pos (by omega)]
  exact congrArg (fun b => { c with romBank := b }) (or_eq_ofNat (bank_middle c.romBank) hnew (by omega))

theorem controlA_second {a : Word} (h : 0x4000 ≤ a.toNat) (h' : a.toNat ≤ 0x5FFF) (v : Byte) (c : Cart) :
    c.controlA a v = if c.bankMode = 0 then
        { c with romBank := BitVec.ofNat 9 (c.romBank.toNat % 32 + 32 * (v.toNat % 4)) }
      else { c with ramBank := BitVec.ofNat 4 (v.toNat % 4) } := by
  have hlow : (v &&& 0x03).toNat = v.toNat % 4 := toNat_and_low v (k := 2) (by decide)
  have hkept : (c.romBank &&& 0x1F).toNat = c.romBank.toNat % 32 := toNat_and_low c.romBank (k := 5) (by decide)
  have hrom : (c.romBank &&& 0x1F) ||| ((v &&& 0x03).setWidth 9 <<< 5) =
      BitVec.ofNat 9 (c.romBank.toNat % 32 + 32 * (v.toNat % 4)) := by
    rw [BitVec.or_comm, Nat.add_comm]
    exact or_eq_ofNat (toNat_shifted v (k := 2) (i := 5) (by decide) (by decide)) hkept (by omega)
  rw [Cart.controlA, if_neg (by omega), if_neg (by omega), if_pos (by omega), hrom, ← BitVec.ofNat_toNat, hlow]

theorem controlA_mode {a : Word} (h : 0x6000 ≤ a.toNat) (v : Byte) (c : Cart) :
    c.controlA a v = { c with bankMode := BitVec.ofNat 1 (v.toNat % 2) } := by
  have hbit : v.setWidth 1 = BitVec.ofNat 1 (v.toNat % 2) := by
    rw [← BitVec.ofNat_toNat]
    exact BitVec.eq_of_toNat_eq (by simp)
  rw [Cart.controlA, if_neg (by omega), if_neg (by omega), if_neg (by omega), hbit]

/-! ### Variant B (R112) -/

theorem busWrite_B {a : Word} {s : State} (hv : s.cart.variant = .B) (h : a.toNat < 0x8000) (v : Byte) :
    busWrite a v s = { s with cart := s.cart.controlB a v } := by
  simp only [busWrite_control h, Cart.control, hv]

theorem controlB_rom {a : Word} (h : 0x2000 ≤ a.toNat) (h' : a.toNat ≤ 0x3FFF) (v : Byte) (c : Cart) :
    c.controlB a v = { c with romBank := BitVec.ofNat 9 (max 1 (v.toNat % 128)) } := by
  have hlow : (v &&& 0x7F).toNat = v.toNat % 128 := toNat_and_low v (k := 7) (by decide)
  have hnew : (if v &&& 0x7F = 0 then (1 : Byte) else v &&& 0x7F).setWidth 9 =
      BitVec.ofNat 9 (max 1 (v.toNat % 128)) := by
    rw [← BitVec.ofNat_toNat, toNat_oneForZero, hlow]
  rw [Cart.controlB, if_neg (by omega), if_pos (by omega)]
  exact congrArg (fun b => { c with romBank := b }) hnew

theorem controlB_ram {a : Word} (h : 0x4000 ≤ a.toNat) (h' : a.toNat ≤ 0x5FFF) (v : Byte) (c : Cart) :
    c.controlB a v = if v.toNat ≤ 0x07 then { c with ramBank := BitVec.ofNat 4 v.toNat } else c := by
  rw [Cart.controlB, if_neg (by omega), if_neg (by omega), if_pos (by omega), BitVec.ofNat_toNat]

theorem controlB_latch {a : Word} (h : 0x6000 ≤ a.toNat) (v : Byte) (c : Cart) : c.controlB a v = c := by
  rw [Cart.controlB, if_neg (by omega), if_neg (by omega), if_neg (by omega)]

/-! ### Variant C (R113) -/

theorem busWrite_C {a : Word} {s : State} (hv : s.cart.variant = .C) (h : a.toNat < 0x8000) (v : Byte) :
    busWrite a v s = { s with cart := s.cart.controlC s.params.mbcCZeroRemap a v } := by
  simp only [busWrite_control h, Cart.control, hv]

theorem controlC_romLow {a : Word} (h : 0x2000 ≤ a.toNat) (h' : a.toNat ≤ 0x2FFF) (z : Bool) (v : Byte)
    (c : Cart) : c.controlC z a v = { c with
      romBank := BitVec.ofNat 9 (256 * (c.romBank.toNat / 256) +
        (if z = true then max 1 v.toNat else v.toNat)) } := by
  have hnew : ((if z = true ∧ v = 0 then (1 : Byte) else v).setWidth 9).toNat =
      if z = true then max 1 v.toNat else v.toNat := by
    rw [toNat_setWidth9]
    cases z
    · simp
    · simp only [true_and, if_true, toNat_oneForZero]
  have hbound : (if z = true then max 1 v.toNat else v.toNat) < 2 ^ 8 := by
    have := v.isLt
    split <;> omega
  rw [Cart.controlC, if_neg (by omega), if_pos (by omega)]
  exact congrArg (fun b => { c with romBank := b }) (or_eq_ofNat (bank_high c.romBank) hnew hbound)

theorem controlC_romHigh {a : Word} (h : 0x3000 ≤ a.toNat) (h' : a.toNat ≤ 0x3FFF) (z : Bool) (v : Byte)
    (c : Cart) : c.controlC z a v = { c with
      romBank := BitVec.ofNat 9 (c.romBank.toNat % 256 + 256 * (v.toNat % 2)) } := by
  have hkept : (c.romBank &&& 0x0FF).toNat = c.romBank.toNat % 256 :=
    toNat_and_low c.romBank (k := 8) (by decide)
  have hrom : (c.romBank &&& 0x0FF) ||| ((v &&& 0x01).setWidth 9 <<< 8) =
      BitVec.ofNat 9 (c.romBank.toNat % 256 + 256 * (v.toNat % 2)) := by
    rw [BitVec.or_comm, Nat.add_comm]
    exact or_eq_ofNat (toNat_shifted v (k := 1) (i := 8) (by decide) (by decide)) hkept (by omega)
  rw [Cart.controlC, if_neg (by omega), if_neg (by omega), if_pos (by omega), hrom]

theorem controlC_ram {a : Word} (h : 0x4000 ≤ a.toNat) (h' : a.toNat ≤ 0x5FFF) (z : Bool) (v : Byte)
    (c : Cart) : c.controlC z a v = { c with ramBank := BitVec.ofNat 4 (v.toNat % 16) } := by
  have hlow : (v &&& 0x0F).toNat = v.toNat % 16 := toNat_and_low v (k := 4) (by decide)
  rw [Cart.controlC, if_neg (by omega), if_neg (by omega), if_neg (by omega), if_pos (by omega),
    ← BitVec.ofNat_toNat, hlow]

theorem controlC_rest {a : Word} (h : 0x6000 ≤ a.toNat) (z : Bool) (v : Byte) (c : Cart) :
    c.controlC z a v = c := by
  rw [Cart.controlC, if_neg (by omega), if_neg (by omega), if_neg (by omega), if_neg (by omega)]

/-- Settles O27: each variant's control writes range by range. -/
theorem bankControllerWrites : Obligations.BankControllerWrites := by
  intro a v s ha
  have hrom : a.toNat < 0x8000 := by omega
  refine ⟨fun hv hhi => ?_, fun hv hlo hhi => ?_, fun hv hlo hhi => ⟨fun hm => ?_, fun hm => ?_⟩,
    fun hv hlo => ?_, fun hv hlo hhi => ?_, fun hv hlo hhi => ⟨fun hx => ?_, fun hx => ?_⟩, fun hv hlo => ?_,
    fun hv hlo hhi => ?_, fun hv hlo hhi => ?_, fun hv hlo hhi => ?_⟩
  · rw [busWrite_control hrom, control_ramEnable hv (by omega)]
  · rw [busWrite_A hv hrom, controlA_romLow hlo hhi]
  · rw [busWrite_A hv hrom, controlA_second hlo hhi, if_pos hm]
  · have hm0 : ¬s.cart.bankMode = 0 := by rw [hm]; decide
    rw [busWrite_A hv hrom, controlA_second hlo hhi, if_neg hm0]
  · rw [busWrite_A hv hrom, controlA_mode hlo]
  · rw [busWrite_B hv hrom, controlB_rom hlo hhi]
  · rw [busWrite_B hv hrom, controlB_ram hlo hhi, if_pos hx]
  · rw [busWrite_B hv hrom, controlB_ram hlo hhi, if_neg (by omega)]
  · rcases hv with hv | hv
    · rw [busWrite_B hv hrom, controlB_latch hlo]
    · rw [busWrite_C hv hrom, controlC_rest hlo]
  · rw [busWrite_C hv hrom, controlC_romLow hlo hhi]
  · rw [busWrite_C hv hrom, controlC_romHigh hlo hhi]
  · rw [busWrite_C hv hrom, controlC_ram hlo hhi]

end Sys2Proof.Machine
end

section
/-! An instruction step as decode and `exec` (R96, R401-R407), and the CPU control instructions that
fault or run another instruction (R325-R327). -/

namespace Sys2Proof.Machine

open Sys2Proof.Claims

/-! ## The instruction step -/

/-- The fetched instruction is what the three bytes at PC decode to (R404). -/
theorem fetchInstr_of_decode {s : State} {i : Instr} {rest : List Byte}
    (h : decode [busRead (fetchAt s 0) s, busRead (fetchAt s 1) s, busRead (fetchAt s 2) s] = .ok (i, rest)) :
    fetchInstr s = i := by
  simp only [fetchAt_eq] at h
  exact (decode_three h).symm

/-- The commit of a delayed EI in the words of the statements (R406). -/
theorem commitEI_words (before : Bool) (t : State) :
    commitEI before t = if before ∧ t.cpu.eiPending then
        { t with cpu := { t.cpu with ime := true, eiPending := false } }
      else t := by
  rw [commitEI]
  simp only [Bool.and_eq_true]
  rfl

theorem takesInterrupt_eq_false_iff (s : State) :
    s.takesInterrupt = false ↔ ¬(s.cpu.ime = true ∧ interruptPending s) := by
  rw [State.takesInterrupt, interruptPending_iff, ← Bool.and_eq_true, Bool.not_eq_true]

theorem step_of_cpuStep_next {s t : State} (hf : s.fault = none) (h : cpuStep s = .next t) :
    step s = .next (devices t) := by
  simp only [step, sysStep, hf, h, devices_eq]

theorem step_of_cpuStep_fault {s : State} {r : Fault} (hf : s.fault = none) (h : cpuStep s = .fault r) :
    step s = .fault r := by
  simp only [step, sysStep, hf, h]

theorem step_of_cpuStep_refused {s : State} {r : Refusal} (hf : s.fault = none) (h : cpuStep s = .refused r) :
    step s = .refused r := by
  simp only [step, sysStep, hf, h]

/-- The overlay check moves no fetch. -/
theorem fetchAt_overlayCheck (s : State) (k : Nat) : fetchAt (overlayCheck s) k = fetchAt s k := by
  rw [fetchAt, fetchAt, overlayCheck_cpu]

/-- Settles O6: the fetch is the decoding of the bytes at PC, and `exec` of it answers the step. -/
theorem stepRunsDecodedInstruction : Obligations.StepRunsDecodedInstruction := by
  intro s i rest hf hr hi hd
  rw [overlaySeen_eq] at hd ⊢
  have hfetch : fetchInstr (overlayCheck s) = i :=
    fetchInstr_of_decode (rest := rest) (by simpa only [fetchAt_overlayCheck] using hd)
  have hcpu := cpuStep_instr hr ((takesInterrupt_eq_false_iff s).2 hi)
  rw [instrStep, hfetch, overlayCheck_cpu] at hcpu
  cases hx : exec i (overlayCheck s) <;> rw [hx] at hcpu
  case next t =>
    rw [step_of_cpuStep_next hf hcpu, commitEI_words]
  case fault r => exact step_of_cpuStep_fault hf hcpu
  case refused r => exact step_of_cpuStep_refused hf hcpu

/-! ## Faults and the byte 0xCB -/

theorem exec_rotR8 (o : RotOp) (r : R8) (s : State) : exec (.rotR8 o r) s = .next (rotateR8 o r s) := by
  cases o <;> cases r <;> rfl

theorem exec_bitR8 (u : U3) (r : R8) (s : State) : exec (.bitR8 u r) s = .next (testBitR8 u r s) := by
  cases u <;> cases r <;> rfl

theorem exec_resR8 (u : U3) (r : R8) (s : State) : exec (.resR8 u r) s = .next (resetBitR8 u r s) := by
  cases u <;> cases r <;> rfl

theorem exec_setR8 (u : U3) (r : R8) (s : State) : exec (.setR8 u r) s = .next (setBitR8 u r s) := by
  cases u <;> cases r <;> rfl

/-- The instruction a second byte selects runs the CB table's operation (R154). -/
theorem exec_instrOfCB (b : Byte) (s : State) : exec (instrOfCB b) s = .next (cbTable b s) := by
  unfold instrOfCB cbTable
  generalize fieldX b = x
  match x with
  | 0 => exact exec_rotR8 _ _ s
  | 1 => exact exec_bitR8 _ _ s
  | 2 => exact exec_resR8 _ _ s
  | _ + 3 => exact exec_setR8 _ _ s

theorem exec_prefixCB (s : State) : exec .prefix_CB s = .next (cbTable (busRead (s.fetchAddr 1) s) s) := by
  rw [exec_form]
  rfl

/-- The byte 0xCB and a second byte decode to the CB table's instruction (R154). -/
theorem decode_cb (b : Byte) : decode [0xCB, b] = .ok (instrOfCB b, []) :=
  decode_whole 0xCB [b] [] rfl (.inr (List.cons_ne_nil b []))

/-- Settles O47: a faulting form answers its fault, and 0xCB alone runs the CB table's operation. -/
theorem faultingBytesAndThePrefix : Obligations.FaultingBytesAndThePrefix := by
  intro s
  refine ⟨fun b => ⟨rfl, ?_⟩, fun p hp => ?_, rfl, fun hf r => ?_, ?_⟩
  · rw [exec_form]; rfl
  · simp only [illegalInstrs, List.mem_cons, List.not_mem_nil, or_false] at hp
    rcases hp with rfl | rfl | rfl | rfl | rfl | rfl | rfl | rfl | rfl | rfl | rfl <;> exact ⟨rfl, exec_form _ s⟩
  · rw [overlaySeen_eq, recordFault, hf]
  · rw [fetchAt_eq, exec_prefixCB]
    exact ⟨_, _, decode_cb _, (exec_instrOfCB _ s).symm, rfl⟩

end Sys2Proof.Machine
end

section
/-! The load faults (R100-R103, R400): what a load answers for each header. -/

namespace Sys2Proof.Machine

open Sys2Proof.Claims

/-- A byte in no row of a table is one that the table does not give a value. -/
theorem unlisted_iff {α : Type} (t : List (Byte × α)) (b : Byte) : Unlisted t b ↔ t.lookup b = none := by
  simp only [Unlisted, List.lookup_eq_none_iff, bne_iff_ne, ne_comm]

theorem exists_of_not_unlisted {α : Type} {t : List (Byte × α)} {b : Byte} (h : ¬Unlisted t b) :
    ∃ v, t.lookup b = some v := by
  rw [unlisted_iff] at h
  exact Option.ne_none_iff_exists'.1 h

/-- A load of an image succeeds where the header gives a cartridge. -/
theorem load_of_cart {args : LoadArgs} {image : List Byte} {c : Cart} (hi : args.image = some image)
    (hc : cartOfHeader args.tables image = .ok c) : ∃ s, load args = .ok s := by
  rw [load, hi]
  dsimp only
  rw [hc]
  cases args.overlay
  · exact ⟨_, rfl⟩
  · exact ⟨_, rfl⟩

/-- A load of an image answers the header's fault. -/
theorem load_of_fault {args : LoadArgs} {image : List Byte} {r : Fault} (hi : args.image = some image)
    (hc : cartOfHeader args.tables image = .error r) : load args = .error r := by
  rw [load, hi]
  dsimp only
  rw [hc]

/-- The header of a whole image, by its three bytes as the statements write them (R100-R102). -/
theorem cartOfHeader_whole (t : HeaderTables) {image : List Byte} (h : 0x150 ≤ image.length) :
    cartOfHeader t image =
      match t.cartTypes.lookup (imageByte image 0x147), t.romSizes.lookup (imageByte image 0x148),
          t.ramSizes.lookup (imageByte image 0x149) with
      | none, _, _ => .error (.unsupportedCartType (imageByte image 0x147))
      | some _, none, _ => .error (.unsupportedRomSize (imageByte image 0x148))
      | some _, some _, none => .error (.unsupportedRamSize (imageByte image 0x149))
      | some v, some romSize, some ramSize => .ok (Cart.powerOn v romSize ramSize) := by
  rw [cartOfHeader, if_neg (Nat.not_lt.2 h), header_byte h (by decide), header_byte h (by decide),
    header_byte h (by decide), cartTypeOf, romSizeOf, ramSizeOf]
  cases t.cartTypes.lookup (imageByte image 0x147)
  · rfl
  cases t.romSizes.lookup (imageByte image 0x148)
  · rfl
  cases t.ramSizes.lookup (imageByte image 0x149)
  · rfl
  · rfl

/-- An image that loads has its three header bytes in the load's tables. -/
theorem listed_of_load {args : LoadArgs} {image : List Byte} {s : State} (hi : args.image = some image)
    (h : load args = .ok s) :
    ¬Unlisted args.tables.cartTypes (imageByte image 0x147) ∧
      ¬Unlisted args.tables.romSizes (imageByte image 0x148) ∧
      ¬Unlisted args.tables.ramSizes (imageByte image 0x149) := by
  obtain ⟨image', cart, hi', hcart, _⟩ := load_cases h
  obtain rfl : image = image' := Option.some.inj (hi.symm.trans hi')
  obtain ⟨hlen, v, m, n, _, hv, hm, hn⟩ := cartOfHeader_cases hcart
  rw [header_byte hlen (by decide)] at hv hm hn
  simp only [unlisted_iff]
  refine ⟨fun hu => ?_, fun hu => ?_, fun hu => ?_⟩
  · cases hv.symm.trans hu
  · cases hm.symm.trans hu
  · cases hn.symm.trans hu

/-- The rows of the default ROM sizes (R101). -/
theorem mem_defaultRomSizes (b : Byte) (n : Nat) :
    (b, n) ∈ HeaderTables.default.romSizes ↔ b.toNat ≤ 8 ∧ n = 32768 * 2 ^ b.toNat := by
  refine ⟨fun h => ⟨?_, romSize_of_mem h⟩, fun ⟨hb, hn⟩ => ?_⟩
  · obtain ⟨m, hm, heq⟩ := List.mem_map.1 h
    cases heq
    have hm := List.mem_range.1 hm
    rw [BitVec.toNat_ofNat]
    omega
  · refine List.mem_map.2 ⟨b.toNat, List.mem_range.2 (by omega), ?_⟩
    rw [hn, BitVec.ofNat_toNat, BitVec.setWidth_eq]

/-- Settles O57: the three lookups of a whole header decide what its load answers. -/
theorem loadFaults : Obligations.LoadFaults := by
  refine ⟨fun args => ⟨fun hnone => ?_, fun image hi => ⟨fun hshort => ?_, fun hlen => ?_⟩⟩, rfl, rfl,
    mem_defaultRomSizes⟩
  · rw [load, hnone]
  · exact load_of_fault hi (if_pos hshort)
  · have hc := cartOfHeader_whole args.tables hlen
    refine ⟨fun ht hrom hram => ?_, fun ht hrom hram => ?_, fun ht hrom hram => ?_, fun ht hrom hram => ?_,
      fun hbad => ?_⟩
    · obtain ⟨v, hv⟩ := exists_of_not_unlisted ht
      obtain ⟨m, hm⟩ := exists_of_not_unlisted hrom
      obtain ⟨n, hn⟩ := exists_of_not_unlisted hram
      rw [hv, hm, hn] at hc
      exact load_of_cart hi hc
    · rw [(unlisted_iff _ _).1 ht] at hc
      exact load_of_fault hi hc
    · obtain ⟨v, hv⟩ := exists_of_not_unlisted ht
      rw [hv, (unlisted_iff _ _).1 hrom] at hc
      exact load_of_fault hi hc
    · obtain ⟨v, hv⟩ := exists_of_not_unlisted ht
      obtain ⟨m, hm⟩ := exists_of_not_unlisted hrom
      rw [hv, hm, (unlisted_iff _ _).1 hram] at hc
      exact load_of_fault hi hc
    · cases hl : load args with
      | error r => exact ⟨r, rfl⟩
      | ok s =>
        obtain ⟨ht, hrom, hram⟩ := listed_of_load hi hl
        exact absurd hbad (not_or.2 ⟨ht, not_or.2 ⟨hrom, hram⟩⟩)

end Sys2Proof.Machine
end

section
/-! The encoder and the decoder, each the inverse of the other (R140, R156, R157): the bytes of `instrOf` are
those it was given, and well-formed instructions with the same bytes are the same. -/

namespace Sys2Proof.Machine

open Sys2Proof.Claims

/-! ## The bytes of the instruction that bytes select -/

/-- The bytes of the CB table's instruction are 0xCB and the selecting byte (R154). -/
theorem encode_instrOfCB (b : Byte) : encode (instrOfCB b) = [0xCB, b] := by
  revert b
  decide

/-- Every first byte's instruction has that first byte, and the operand bytes that its length leaves room for,
those of a word in the word's order (R120, R150-R156). -/
theorem encode_instrOf_word (o b c : Byte) :
    encode (instrOf o b c) = o ::
      if opLength o = 3 then [loByte (mkWord c b), hiByte (mkWord c b)] else [b, c].take (opLength o - 1) := by
  by_cases ho : o = 0xCB
  · subst ho
    exact encode_instrOfCB b
  · obtain ⟨n, hn, rfl⟩ : ∃ n < 256, o = BitVec.ofNat 8 n := ⟨o.toNat, o.isLt, by simp⟩
    have hne : n ≠ 0xCB := by
      rintro rfl
      exact ho rfl
    rcases Nat.lt_or_gt_of_ne hne with hlt | hgt
    · interval_cases n <;> rfl
    · interval_cases n <;> rfl

theorem encode_instrOf (o b c : Byte) : encode (instrOf o b c) = o :: [b, c].take (opLength o - 1) := by
  rw [encode_instrOf_word, loByte_mkWord, hiByte_mkWord]
  split_ifs with h
  · rw [h]
    rfl
  · rfl

/-- The first byte can be read off the instruction it selects. -/
theorem opcode_of_instrOf_eq {o o' b b' c c' : Byte} (h : instrOf o b c = instrOf o' b' c') : o = o' := by
  have henc := congrArg encode h
  rw [encode_instrOf, encode_instrOf] at henc
  exact (List.cons.inj henc).1

theorem wellFormed_of_ne_prefixCB {i : Instr} (h : i ≠ .prefix_CB) : i.wellFormed = true := by
  unfold Instr.wellFormed Instr.isComplete
  split
  · exact absurd rfl h
  · rfl

/-- Three bytes never select the bare 0xCB, which is one byte long where its first byte asks for two (R157). -/
theorem instrOf_wellFormed (o b c : Byte) : (instrOf o b c).wellFormed = true := by
  refine wellFormed_of_ne_prefixCB fun h => ?_
  have henc := encode_instrOf o b c
  rw [h] at henc
  obtain ⟨rfl, hnil⟩ := List.cons.inj henc
  cases hnil

/-- The operand bytes, read with 0 past the end of the list, are the list's own as far as it goes. -/
theorem take_operands {n : Nat} {tl : List Byte} (h : n ≤ tl.length) (h2 : n ≤ 2) :
    [tl.getD 0 0, tl.getD 1 0].take n = tl.take n := by
  match n, tl, h, h2 with
  | 0, _, _, _ => rfl
  | 1, _ :: _, _, _ => rfl
  | 2, _ :: _ :: _, _, _ => rfl

/-- Settles O2: the bytes of what was decoded are the first byte and the operand bytes it asks for. -/
theorem encodeInvertsDecode : Obligations.EncodeInvertsDecode := by
  intro bytes rest i h
  rcases decode_ok h with ⟨rfl, rfl, rfl⟩ | ⟨o, tl, rfl, hlen, rfl, rfl⟩
  · rfl
  · obtain ⟨_, hle⟩ := opLength_range o
    rw [encode_instrOf, take_operands (by omega) (by omega), List.cons_append, List.take_append_drop]

/-! ## The instruction that an instruction's bytes select -/

/-- A well-formed instruction is as long as its first byte says, and is the one its bytes select: a word comes
back from its two bytes (R120). -/
theorem encode_cases {i : Instr} (h : i.wellFormed = true) :
    ∃ o tl, encode i = o :: tl ∧ opLength o = tl.length + 1 ∧ instrOf o (tl.getD 0 0) (tl.getD 1 0) = i := by
  cases i
  case prefix_CB => cases h
  case ld_BC_n16 n | ld_DE_n16 n | ld_HL_n16 n | ld_SP_n16 n | ld_ma16_SP n | ld_ma16_A n | ld_A_ma16 n |
      jp_a16 n | jp_NZ_a16 n | jp_Z_a16 n | jp_NC_a16 n | jp_C_a16 n | call_a16 n | call_NZ_a16 n |
      call_Z_a16 n | call_NC_a16 n | call_C_a16 n =>
    exact ⟨_, _, rfl, rfl, congrArg _ (mkWord_bytes n)⟩
  all_goals exact ⟨_, _, rfl, rfl, rfl⟩

theorem encode_injective {i j : Instr} (hi : i.wellFormed = true) (hj : j.wellFormed = true)
    (h : encode i = encode j) : i = j := by
  obtain ⟨o, tl, henc, _, rfl⟩ := encode_cases hi
  obtain ⟨o', tl', henc', _, rfl⟩ := encode_cases hj
  obtain ⟨rfl, rfl⟩ := List.cons.inj (henc.symm.trans (h.trans henc'))
  rfl

/-- A list that starts with as many bytes as its first byte asks for gives a well-formed instruction: 0xCB alone
is a byte short (R156, R325). -/
theorem decode_of_opLength {o : Byte} {tl : List Byte} (rest : List Byte) (h : opLength o = tl.length + 1) :
    ∃ i, decode (o :: (tl ++ rest)) = .ok (i, rest) ∧ i.wellFormed = true := by
  refine ⟨_, decode_whole o tl rest h (or_iff_not_imp_left.2 fun ho hnil => ?_), instrOf_wellFormed _ _ _⟩
  obtain rfl : o = 0xCB := not_not.1 ho
  subst hnil
  exact absurd h (by decide)

/-- Settles O1: what the bytes of an instruction decode to has the same bytes (O2), and no other has them. -/
theorem decodeInvertsEncode : Obligations.DecodeInvertsEncode := by
  intro i rest hi
  obtain ⟨o, tl, henc, hlen, _⟩ := encode_cases hi
  obtain ⟨j, hdec, hj⟩ := decode_of_opLength rest hlen
  rw [← List.cons_append, ← henc] at hdec
  have hji : encode j = encode i := List.append_cancel_right (encodeInvertsDecode _ _ _ hdec)
  rw [hdec, encode_injective hj hi hji]

/-! ## Three bytes -/

/-- The length of R156 by the statements' tables. -/
theorem opLength_eq_tables (o : Byte) :
    opLength o = if o ∈ threeByteOpcodes then 3 else if o ∈ twoByteOpcodes then 2 else 1 := by
  revert o
  decide

/-- No three bytes are cut short (R156). -/
theorem decode_threeBytes (o b c : Byte) (rest : List Byte) :
    decode (o :: b :: c :: rest) = .ok (instrOf o b c, (o :: b :: c :: rest).drop (opLength o)) := by
  obtain ⟨hpos, hle⟩ := opLength_range o
  have hlen : ¬(b :: c :: rest).length + 1 < opLength o := by
    simp only [List.length_cons]
    omega
  obtain ⟨n, hn⟩ : ∃ n, opLength o = n + 1 := ⟨_, (Nat.sub_add_cancel hpos).symm⟩
  rw [decode, if_neg fun h => List.cons_ne_nil _ _ h.2, if_neg hlen, hn, List.drop_succ_cons]
  rfl

/-- The statements' illegal instructions are what the illegal bytes select, whatever follows them (R155). -/
theorem illegalInstrs_eq (b c : Byte) : illegalInstrs = illegalBytes.map fun o => (o, instrOf o b c) := rfl

/-- Settles O3: three bytes select an instruction of their first byte, which can be read off it again. -/
theorem decodingIsTotal : Obligations.DecodingIsTotal := by
  intro o b c rest
  rw [← opLength_eq_tables, illegalInstrs_eq b c]
  refine ⟨instrOf o b c, decode_threeBytes o b c rest, instrOf_wellFormed o b c,
    ⟨fun ho => List.mem_map_of_mem ho, fun hp => ?_⟩, ?_⟩
  · obtain ⟨x, hx, he⟩ := List.mem_map.1 hp
    rwa [← (Prod.mk.inj he).1]
  · rintro ⟨p, hp, hpi⟩
    obtain ⟨x, hx, rfl⟩ := List.mem_map.1 hp
    rwa [← opcode_of_instrOf_eq hpi]

/-! ## The regular blocks -/

/-- Block x = 1 (R151); `.ldR8 .mHL .mHL` is HALT. -/
theorem encode_ldR8 (d r : R8) : encode (.ldR8 d r) = [op (0x40 + 8 * r8Code d + r8Code r)] := by
  cases d <;> cases r <;> rfl

/-- Block x = 2 (R152). -/
theorem encode_aluR8 (o : AluOp) (r : R8) : encode (.aluR8 o r) = [op (0x80 + 8 * aluCode o + r8Code r)] := by
  cases o <;> cases r <;> rfl

theorem encode_rotR8 (o : RotOp) (r : R8) : encode (.rotR8 o r) = [0xCB, op (8 * rotCode o + r8Code r)] := by
  cases o <;> cases r <;> rfl

theorem encode_bitR8 (u : U3) (r : R8) : encode (.bitR8 u r) = [0xCB, op (0x40 + 8 * u3Code u + r8Code r)] := by
  cases u <;> cases r <;> rfl

theorem encode_resR8 (u : U3) (r : R8) : encode (.resR8 u r) = [0xCB, op (0x80 + 8 * u3Code u + r8Code r)] := by
  cases u <;> cases r <;> rfl

theorem encode_setR8 (u : U3) (r : R8) : encode (.setR8 u r) = [0xCB, op (0xC0 + 8 * u3Code u + r8Code r)] := by
  cases u <;> cases r <;> rfl

/-- The bytes of an instruction, other than 0xCB alone, decode to it and leave nothing. -/
theorem decode_of_encode_eq {i : Instr} {bytes : List Byte} (h : encode i = bytes) (hp : bytes ≠ [0xCB]) :
    decode bytes = .ok (i, []) := by
  have hi : i ≠ .prefix_CB := by
    rintro rfl
    exact hp h.symm
  have hdec := decodeInvertsEncode i [] (wellFormed_of_ne_prefixCB hi)
  rwa [List.append_nil, h] at hdec

/-- Settles O4: the bytes of each block's instructions, by their operand codes, decode back to them. The pair
`(HL),(HL)` is HALT's, so block x = 1 needs no exception here. -/
theorem opcodeBlocks : Obligations.OpcodeBlocks := by
  refine ⟨fun d r => .inr (decode_of_encode_eq (encode_ldR8 d r) ?_),
    decode_of_encode_eq (encode_ldR8 .mHL .mHL) (by decide),
    fun o r => decode_of_encode_eq (encode_aluR8 o r) ?_,
    fun o r => decode_of_encode_eq (encode_rotR8 o r) (by simp),
    fun u r => decode_of_encode_eq (encode_bitR8 u r) (by simp),
    fun u r => decode_of_encode_eq (encode_resR8 u r) (by simp),
    fun u r => decode_of_encode_eq (encode_setR8 u r) (by simp)⟩
  · cases d <;> cases r <;> decide
  · cases o <;> cases r <;> decide

/-- Settles O5: the decoder, run on each word. -/
theorem wordsDecodeAsTheSpecWritesThem : Obligations.WordsDecodeAsTheSpecWritesThem :=
  ⟨rfl, rfl, rfl, rfl, rfl, rfl, rfl, rfl, rfl, rfl⟩

end Sys2Proof.Machine
end

section
/-! The storing instructions (R172-R186, R200-R205, R238, R274, R284, R305, R310): what one bus write and two
bus writes store, said once, and each instruction as its writes. -/

namespace Sys2Proof.Machine

open Sys2Proof.Claims

/-! ## What bus writes store -/

/-- The stored bytes and the reads of a state are those of one that differs in the CPU and the cost alone. -/
theorem reads_of_eq_withCpu {t u : State} (ht : t = { u with cpu := t.cpu, cycles := t.cycles }) :
    (∀ k, t.readKey k = u.readKey k) ∧ ∀ b, busRead b t = busRead b u :=
  ⟨fun k => by rw [ht]; rfl, fun b => by rw [ht, busRead_withCpu]⟩

/-- An instruction that is one bus write stores that byte. -/
theorem storesByte_of_busWrite {i : Instr} {a : Word} {v : Byte} {s t : State} (h : exec i s = .next t)
    (ht : t = { busWrite a v s with cpu := t.cpu, cycles := t.cycles }) : StoresByte i a v s := by
  obtain ⟨hkey, hread⟩ := reads_of_eq_withCpu ht
  refine ⟨t, h, fun k hk => ?_, fun k hk => ⟨?_, fun b hb => ?_⟩⟩
  · rw [hkey, readKey_busWrite, if_neg hk]
  · rw [hkey, readKey_busWrite, if_pos hk]
  · rw [hread, busWrite_storeKey hk, busRead_writeKey, if_neg hb]

/-- An instruction that is two bus writes stores those bytes, in their order. -/
theorem storesTwoBytes_of_busWrites {i : Instr} {a b : Word} {v w : Byte} {s t : State}
    (h : exec i s = .next t)
    (ht : t = { busWrite b w (busWrite a v s) with cpu := t.cpu, cycles := t.cycles }) :
    StoresTwoBytes i a v b w s := by
  obtain ⟨hkey, hread⟩ := reads_of_eq_withCpu ht
  refine ⟨t, h, fun k hk hk' => ?_, fun k l hk hl => ?_⟩
  · rw [hkey, readKey_busWrite, if_neg hk', readKey_busWrite, if_neg hk]
  have hl' : storeKey b (s.writeKey k v) = some l := by rw [storeKey_writeKey, hl]
  have hwrites : busWrite b w (busWrite a v s) = (s.writeKey k v).writeKey l w := by
    rw [busWrite_storeKey hk, busWrite_storeKey hl']
  rw [hwrites] at hkey hread
  refine ⟨?_, fun hne => ?_, fun c hck hcl => ?_⟩
  · rw [hkey, readKey_writeKey_same]
  · rw [hkey, readKey_writeKey_other _ _ hne, readKey_writeKey_same]
  · have hcl' : loadKey c (s.writeKey k v) ≠ some l := hcl
    rw [hread, busRead_writeKey, if_neg hcl', busRead_writeKey, if_neg hck]

/-- An instruction that pushes a word stores its two bytes below SP (R200). -/
theorem storesTwoBytes_of_push {i : Instr} {v pc : Word} {n : Nat} {s : State}
    (h : exec i s = .next ((push16 v s).retire pc n)) :
    StoresTwoBytes i (s.cpu.sp - 1) (hiByte v) (s.cpu.sp - 2) (loByte v) s := by
  rw [push16_eq] at h
  exact storesTwoBytes_of_busWrites h rfl

/-! ## The storing instructions -/

/-- The pair `(HL),(HL)` is HALT's (R151). -/
theorem formOf_ldR8 {d r : R8} (h : d ≠ .mHL ∨ r ≠ .mHL) : formOf (.ldR8 d r) = .loadR8 d r := by
  cases d
  case mHL =>
    cases r
    case mHL => exact absurd h (by decide)
    all_goals rfl
  all_goals cases r <;> rfl

theorem formOf_ldN8 (d : R8) (n : Byte) : formOf (.ldN8 d n) = .loadN8 d n := by cases d <;> rfl

theorem formOf_stMem (m : R16Mem) : formOf (.stMem m) = .storeMem m := by cases m <;> rfl

theorem formOf_callCC (c : Cond) (a : Word) : formOf (.callCC c a) = .callIf c a := by cases c <;> rfl

theorem formOf_rst (u : U3) : formOf (.rst u) = .restart u := by cases u <;> rfl

/-- An instruction answers what running its form does. -/
theorem exec_of_formOf {i : Instr} {f : Form} (hf : formOf i = f) (s : State) : exec i s = f.run s := by
  rw [exec_form, hf]

theorem exec_callCC_taken {c : Cond} {s : State} (h : condHolds c s = true) (a : Word) :
    exec (.callCC c a) s = .next (callTo (opcodeByte 3 c.code 4) a s) := by
  rw [exec_of_formOf (formOf_callCC c a), Form.run, callIf, if_pos h]

theorem u3Code_eq (u : U3) : u3Code u = u.code := by cases u <;> rfl

/-- The rotates and shifts in natural numbers (R275-R282). -/
theorem rotApply_fst (o : RotOp) (v : Byte) (c : Bool) :
    (rotApply o v c).1 = BitVec.ofNat 8 (rotate o v.toNat c.toNat).1 := by
  revert v c
  cases o <;> decide

theorem storesByte_stMem (m : R16Mem) (s : State) : StoresByte (.stMem m) (memAddr m s) s.cpu.a s := by
  refine storesByte_of_busWrite (exec_of_formOf (formOf_stMem m) s) ?_
  rw [storeMem, memPost_eq]
  rfl

/-- Settles O31: each storing instruction is its bus writes, but for the CPU and the cost. -/
theorem storesChangeOnlyTheirBytes : Obligations.StoresChangeOnlyTheirBytes := by
  intro s r m p c u o n a
  simp only [word_eq, high_eq, low_eq, highPage_eq, pcAfter_eq, condition_eq, u3Code_eq,
    ← rotApply_fst]
  exact ⟨fun hr => storesByte_of_busWrite (exec_of_formOf (formOf_ldR8 (.inr hr)) s) rfl,
    storesByte_of_busWrite (exec_of_formOf (formOf_ldN8 .mHL n) s) rfl,
    storesByte_stMem m s,
    storesByte_of_busWrite (exec_form (.ldh_ma8_A n) s) rfl,
    storesByte_of_busWrite (exec_form .ldh_mC_A s) rfl,
    storesByte_of_busWrite (exec_form (.ld_ma16_A a) s) rfl,
    storesByte_of_busWrite (exec_form .inc_mHL s) rfl,
    storesByte_of_busWrite (exec_form .dec_mHL s) rfl,
    storesByte_of_busWrite (exec_rotR8 o .mHL s) rfl,
    storesByte_of_busWrite (exec_resR8 u .mHL s) rfl,
    storesByte_of_busWrite (exec_setR8 u .mHL s) rfl,
    storesTwoBytes_of_busWrites (exec_form (.ld_ma16_SP a) s) rfl,
    storesTwoBytes_of_push (exec_push p s),
    storesTwoBytes_of_push (exec_form (.call_a16 a) s),
    fun hc => storesTwoBytes_of_push (exec_callCC_taken hc a),
    storesTwoBytes_of_push (exec_of_formOf (formOf_rst u) s)⟩

end Sys2Proof.Machine
end

section
/-! The 8-bit loads (R170-R188): the shape every `Runs` statement has, its bytes, its end and its cost each said
once, and the loads by their forms. -/

namespace Sys2Proof.Machine

open Sys2Proof.Claims

/-! ## Running an instruction -/

/-- The form that bytes select costs what the session's table gives those bytes. -/
theorem formCost_instrOf (o b c : Byte) (s : State) : (formOf (instrOf o b c)).cost s = tableCost o b s := by
  by_cases ho : o = 0xCB
  · subst ho
    obtain ⟨hop, hpre⟩ := formOf_instrOfCB b
    exact (Form.cost_of_prefixed hpre s).trans (congrArg s.cbCost hop)
  · obtain ⟨hop, hpre, hcond⟩ := formOf_instrOf b c ho
    exact Form.cost_eq_tableCost b s ho hop hpre hcond

/-- A form costs what the session's table gives the instruction's bytes (R530). -/
theorem formCost_eq_tableCost {i : Instr} (hi : i.wellFormed = true) (s : State) :
    (formOf i).cost s = tableCost ((encode i).getD 0 0) ((encode i).getD 1 0) s := by
  obtain ⟨o, tl, henc, _, rfl⟩ := encode_cases hi
  rw [formCost_instrOf, henc]
  rfl

/-- An instruction runs as its form does, at the cost that the tables give its bytes. -/
theorem runs_of_form {i : Instr} {f : Form} {code : List Byte} {s t : State} (hf : formOf i = f)
    (hp : f ≠ .prefixCB) (henc : encode i = code) (hrun : f.run s = .next { t with cycles := f.cost s })
    (hcost : cost (code.getD 0 0) (code.getD 1 0) s = t.cycles) : Runs i code s t := by
  have hi : i.wellFormed = true := wellFormed_of_ne_prefixCB fun h => hp (by rw [← hf, h]; rfl)
  refine ⟨henc, ?_, fun hdef => (tableCost_default hdef _ _).trans hcost⟩
  rw [exec_of_formOf hf, hrun, ← hf, formCost_eq_tableCost hi, henc]

/-- An instruction that leaves the PC until its end goes on to the next one. -/
theorem advance_eq_done {s u : State} (hpc : u.cpu.pc = s.cpu.pc)
    (hbug : u.cpu.haltBugPending = s.cpu.haltBugPending) (len n : Nat) :
    u.advance len n = done u (pcAfter s len) n := by
  rw [pcAfter_eq, State.advance, State.pcNext, State.pcNext, hpc, hbug]
  rfl

theorem set8_advance (r : R8) (v : Byte) (s : State) (len n : Nat) :
    (set8 r v s).advance len n = done (set8 r v s) (pcAfter s len) n := by
  obtain ⟨_, _, _, _, hpc, hbug⟩ := set8_control r v s
  exact advance_eq_done hpc hbug len n

theorem busWrite_advance (a : Word) (v : Byte) (s : State) (len n : Nat) :
    (busWrite a v s).advance len n = done (busWrite a v s) (pcAfter s len) n :=
  advance_eq_done (by rw [busWrite_cpu]) (by rw [busWrite_cpu]) len n

/-- A load of A goes on to the next instruction. -/
theorem setA_advance (s : State) (v : Byte) (len n : Nat) :
    (s.setA v).advance len n = doneA s v (pcAfter s len) n := advance_eq_done rfl rfl len n

/-- Moving HL commutes with ending an instruction (R146). -/
theorem memPost_advance (m : R16Mem) (s : State) (len n : Nat) :
    (memPost m s).advance len n = memPost m (s.advance len n) := by
  cases m <;> rfl

theorem memPost_setCycles (m : R16Mem) (s : State) (n : Nat) :
    { memPost m s with cycles := n } = memPost m { s with cycles := n } := by
  cases m <;> rfl

/-! ## Registers, (HL) and immediates (R170-R174) -/

/-- The costs of block x = 1, HALT's with them (R530). -/
theorem cost_ldR8 (d r : R8) (b : Byte) (s : State) :
    cost (op (0x40 + 8 * r8Code d + r8Code r)) b s = if d = .mHL ↔ r = .mHL then 4 else 8 := by
  cases d <;> cases r <;> rfl

theorem cost_ldN8 (d : R8) (b : Byte) (s : State) :
    cost (op (0x06 + 8 * r8Code d)) b s = if d = .mHL then 12 else 8 := by
  cases d <;> rfl

theorem encode_ldN8 (d : R8) (n : Byte) : encode (.ldN8 d n) = [op (0x06 + 8 * r8Code d), n] := by
  cases d <;> rfl

theorem runs_ldR8 {d r : R8} {n : Nat} (h : d ≠ .mHL ∨ r ≠ .mHL) (s : State)
    (hn : (if d = .mHL ↔ r = .mHL then 4 else 8) = n) :
    Runs (.ldR8 d r) [op (0x40 + 8 * r8Code d + r8Code r)] s
      (done (set8 d (get8 r s) s) (pcAfter s 1) n) :=
  runs_of_form (formOf_ldR8 h) nofun (encode_ldR8 d r) (congrArg _ (set8_advance d _ s 1 _))
    ((cost_ldR8 d r _ s).trans hn)

theorem runs_ldN8 {d : R8} {n : Nat} (v : Byte) (s : State) (hn : (if d = .mHL then 12 else 8) = n) :
    Runs (.ldN8 d v) [op (0x06 + 8 * r8Code d), v] s (done (set8 d v s) (pcAfter s 2) n) :=
  runs_of_form (formOf_ldN8 d v) nofun (encode_ldN8 d v) (congrArg _ (set8_advance d v s 2 _))
    ((cost_ldN8 d v s).trans hn)

/-- Settles O29: the loads of block x = 1 and of immediates, with at most one operand in memory. -/
theorem byteLoads : Obligations.ByteLoads := by
  intro s d r n
  rw [word_eq]
  have hcode : 0x46 + 8 * r8Code d = 0x40 + 8 * r8Code d + r8Code .mHL := Nat.add_right_comm 0x40 6 _
  rw [hcode]
  exact ⟨fun hd hr => runs_ldR8 (.inl hd) s (if_pos (iff_of_false hd hr)),
    fun hd => runs_ldR8 (.inl hd) s (if_neg fun h => hd (h.2 rfl)),
    fun hr => runs_ldR8 (d := .mHL) (.inr hr) s (if_neg fun h => hr (h.1 rfl)),
    fun hd => runs_ldN8 n s (if_neg hd),
    runs_ldN8 (d := .mHL) n s (if_pos rfl)⟩

/-! ## A and memory (R175-R188) -/

theorem formOf_ldMem (m : R16Mem) : formOf (.ldMem m) = .loadMem m := by cases m <;> rfl

theorem encode_ldMem (m : R16Mem) : encode (.ldMem m) = [op (0x0A + 16 * memCode m)] := by cases m <;> rfl

theorem encode_stMem (m : R16Mem) : encode (.stMem m) = [op (0x02 + 16 * memCode m)] := by cases m <;> rfl

theorem cost_ldMem (m : R16Mem) (b : Byte) (s : State) : cost (op (0x0A + 16 * memCode m)) b s = 8 := by
  cases m <;> rfl

theorem cost_stMem (m : R16Mem) (b : Byte) (s : State) : cost (op (0x02 + 16 * memCode m)) b s = 8 := by
  cases m <;> rfl

theorem memPost_cycles (m : R16Mem) (s : State) : (memPost m s).cycles = s.cycles := by cases m <;> rfl

theorem runs_ldMem (m : R16Mem) (s : State) :
    Runs (.ldMem m) [op (0x0A + 16 * memCode m)] s
      (memPost m (doneA s (busRead (memAddr m s) s) (pcAfter s 1) 8)) := by
  refine runs_of_form (formOf_ldMem m) nofun (encode_ldMem m) ?_ ?_
  · rw [Form.run, loadMem, memPost_advance, setA_advance, memPost_setCycles]
    rfl
  · rw [memPost_cycles]
    exact cost_ldMem m _ s

theorem runs_stMem (m : R16Mem) (s : State) :
    Runs (.stMem m) [op (0x02 + 16 * memCode m)] s
      (memPost m (done (busWrite (memAddr m s) s.cpu.a s) (pcAfter s 1) 8)) := by
  refine runs_of_form (formOf_stMem m) nofun (encode_stMem m) ?_ ?_
  · rw [Form.run, storeMem, memPost_advance, busWrite_advance, memPost_setCycles]
    rfl
  · rw [memPost_cycles]
    exact cost_stMem m _ s

/-- A load of A from an address that the form gives (R183, R185, R187). -/
theorem runs_loadA {i : Instr} {f : Form} {code : List Byte} {s : State} {o : Byte} {a : Word} {len n : Nat}
    (hf : formOf i = f) (hp : f ≠ .prefixCB) (henc : encode i = code) (hrun : f.run s = .next (loadA o a len s))
    (hop : f.cost s = s.opCost o) (hcost : cost (code.getD 0 0) (code.getD 1 0) s = n) :
    Runs i code s (doneA s (busRead a s) (pcAfter s len) n) := by
  refine runs_of_form hf hp henc ?_ hcost
  rw [hrun, hop, loadA, setA_advance]
  rfl

/-- A store of A to an address that the form gives (R184, R186, R188). -/
theorem runs_storeA {i : Instr} {f : Form} {code : List Byte} {s : State} {o : Byte} {a : Word} {len n : Nat}
    (hf : formOf i = f) (hp : f ≠ .prefixCB) (henc : encode i = code) (hrun : f.run s = .next (storeA o a len s))
    (hop : f.cost s = s.opCost o) (hcost : cost (code.getD 0 0) (code.getD 1 0) s = n) :
    Runs i code s (done (busWrite a s.cpu.a s) (pcAfter s len) n) := by
  refine runs_of_form hf hp henc ?_ hcost
  rw [hrun, hop, storeA, busWrite_advance]
  rfl

/-- Settles O30: each form ends as the shared load or store of A does. -/
theorem accumulatorLoadsAndStores : Obligations.AccumulatorLoadsAndStores := by
  intro s m n a
  simp only [low_eq, high_eq, highPage_eq]
  exact ⟨runs_ldMem m s, runs_stMem m s,
    runs_loadA (f := .loadAbs a) rfl nofun rfl rfl rfl rfl,
    runs_storeA (f := .storeAbs a) rfl nofun rfl rfl rfl rfl,
    runs_loadA (f := .loadHigh n) rfl nofun rfl rfl rfl rfl,
    runs_storeA (f := .storeHigh n) rfl nofun rfl rfl rfl rfl,
    runs_loadA (f := .loadHighC) rfl nofun rfl rfl rfl rfl,
    runs_storeA (f := .storeHighC) rfl nofun rfl rfl rfl rfl⟩

end Sys2Proof.Machine
end

section
/-! The 16-bit loads and the stack (R200-R207): each form's end, said for the shared operations, and its
result. -/

namespace Sys2Proof.Machine

open Sys2Proof.Claims

/-! ## Register pairs, SP and words in memory (R202-R204) -/

theorem formOf_ldR16 (rr : R16) (n : Word) : formOf (.ldR16 rr n) = .loadN16 rr n := by cases rr <;> rfl

theorem encode_ldR16 (rr : R16) (n : Word) :
    encode (.ldR16 rr n) = [op (0x01 + 16 * r16Code rr), loByte n, hiByte n] := by
  cases rr <;> rfl

theorem cost_ldR16 (rr : R16) (b : Byte) (s : State) : cost (op (0x01 + 16 * r16Code rr)) b s = 12 := by
  cases rr <;> rfl

/-- A write of a pair or of SP goes on to the next instruction. -/
theorem set16_advance (rr : R16) (v : Word) (s : State) (len n : Nat) :
    (set16 rr v s).advance len n = done (set16 rr v s) (pcAfter s len) n := by
  cases rr <;> exact advance_eq_done rfl rfl len n

theorem busWrite16_advance (a v : Word) (s : State) (len n : Nat) :
    (busWrite16 a v s).advance len n = done (busWrite16 a v s) (pcAfter s len) n :=
  advance_eq_done (by rw [busWrite16, busWrite_cpu, busWrite_cpu])
    (by rw [busWrite16, busWrite_cpu, busWrite_cpu]) len n

theorem runs_ldR16 (rr : R16) (n : Word) (s : State) :
    Runs (.ldR16 rr n) [op (0x01 + 16 * r16Code rr), loByte n, hiByte n] s
      (done (set16 rr n s) (pcAfter s 3) 12) :=
  runs_of_form (formOf_ldR16 rr n) nofun (encode_ldR16 rr n) (congrArg _ (set16_advance rr n s 3 _))
    (cost_ldR16 rr _ s)

theorem runs_ld_ma16_SP (a : Word) (s : State) :
    Runs (.ld_ma16_SP a) [0x08, loByte a, hiByte a] s
      (done (busWrite16 a s.cpu.sp s) (pcAfter s 3) 20) :=
  runs_of_form (f := .storeSP a) rfl nofun rfl (congrArg _ (busWrite16_advance a s.cpu.sp s 3 _)) rfl

theorem runs_ld_SP_HL (s : State) :
    Runs .ld_SP_HL [0xF9] s (done (set16 .SP s.hl s) (pcAfter s 1) 8) :=
  runs_of_form (f := .loadSPHL) rfl nofun rfl (congrArg _ (set16_advance .SP s.hl s 1 _)) rfl

/-! ## SP plus a signed byte (R207) -/

/-- Adding a sign-extended byte is adding its value. -/
theorem addSPe8_fst (sp : Word) (e : Byte) :
    (addSPe8 sp e).1 = BitVec.ofInt 16 ((sp.toNat : Int) + e.toInt) := by
  rw [addSPe8, BitVec.ofInt_add, BitVec.ofInt_natCast, BitVec.ofNat_toNat, BitVec.setWidth_eq]
  rfl

/-- An instruction that ends with a write of the flags puts their byte in F (R24, R25). -/
theorem setFlags_advance_eq_doneF {s u : State} (hpc : u.cpu.pc = s.cpu.pc)
    (hbug : u.cpu.haltBugPending = s.cpu.haltBugPending) (f : Flags) (len n : Nat) :
    (u.setFlags f).advance len n = doneF u (flagByte f.z f.n f.h f.c) (pcAfter s len) n := by
  have hend : (u.setFlags f).advance len n = doneF u (f.toByte &&& 0xF0) (pcAfter s len) n :=
    advance_eq_done (u := u.setFlags f) hpc hbug len n
  rw [hend, toByte_and_high, flagByte_eq]

theorem runs_ld_HL_SPe8 (e : Byte) (s : State) :
    Runs (.ld_HL_SPe8 e) [0xF8, e] s
      (doneF (set16 .HL (BitVec.ofInt 16 ((s.cpu.sp.toNat : Int) + e.toInt)) s)
        (flagByte false false (decide (15 < s.cpu.sp.toNat % 16 + e.toNat % 16))
          (decide (255 < s.cpu.sp.toNat % 256 + e.toNat))) (pcAfter s 2) 12) := by
  refine runs_of_form (f := .loadHLSP e) rfl nofun rfl ?_ rfl
  rw [Form.run, loadHLSP, setFlags_advance_eq_doneF (s := s) (u := s.setHL (addSPe8 s.cpu.sp e).1) rfl rfl,
    addSPe8_fst]
  rfl

/-- Settles O32: each form ends as its write of a pair, of SP's two bytes or of HL and the flags does. -/
theorem wordLoads : Obligations.WordLoads := by
  intro s rr n e
  simp only [low_eq, high_eq, word_eq]
  exact ⟨runs_ldR16 rr n s, runs_ld_ma16_SP n s, runs_ld_SP_HL s, runs_ld_HL_SPe8 e s⟩

/-! ## PUSH and POP (R200, R201, R205, R206) -/

theorem formOf_push (p : R16Stk) : formOf (.push p) = .push p := by cases p <;> rfl

theorem formOf_pop (p : R16Stk) : formOf (.pop p) = .pop p := by cases p <;> rfl

theorem encode_push (p : R16Stk) : encode (.push p) = [op (0xC5 + 16 * stkCode p)] := by cases p <;> rfl

theorem encode_pop (p : R16Stk) : encode (.pop p) = [op (0xC1 + 16 * stkCode p)] := by cases p <;> rfl

theorem cost_push (p : R16Stk) (b : Byte) (s : State) : cost (op (0xC5 + 16 * stkCode p)) b s = 16 := by
  cases p <;> rfl

theorem cost_pop (p : R16Stk) (b : Byte) (s : State) : cost (op (0xC1 + 16 * stkCode p)) b s = 12 := by
  cases p <;> rfl

/-- A push goes on to the next instruction. -/
theorem push16_advance (v : Word) (s : State) (len n : Nat) :
    (push16 v s).advance len n = done (push16 v s) (pcAfter s len) n :=
  advance_eq_done (by rw [push16_eq]) (by rw [push16_eq]) len n

/-- A pop into a pair goes on to the next instruction. -/
theorem setStk_pop16_advance (p : R16Stk) (v : Word) (s : State) (len n : Nat) :
    (setStk p v (pop16 s)).advance len n = done (setStk p v (pop16 s)) (pcAfter s len) n := by
  cases p <;> exact advance_eq_done rfl rfl len n

/-- Settles O33: a push ends as its two bus writes do, a pop as the write of its pair does. -/
theorem pushAndPop : Obligations.PushAndPop := by
  intro s p
  rw [pushed_eq, popped_eq, unstacked_eq]
  exact ⟨runs_of_form (formOf_push p) nofun (encode_push p) (congrArg _ (push16_advance _ s 1 _))
      (cost_push p _ s),
    runs_of_form (formOf_pop p) nofun (encode_pop p) (congrArg _ (setStk_pop16_advance p _ s 1 _))
      (cost_pop p _ s)⟩

end Sys2Proof.Machine
end

section
/-! The 8-bit arithmetic and logic (R220-R244): what each operation gives A and F in natural numbers, said once
for the operation, and each instruction by its form. -/

namespace Sys2Proof.Machine

open Sys2Proof.Claims

/-! ## Results and flags in natural numbers -/

/-- An operation's result is the byte `v` and its flags are the byte `f` of F. -/
def Gives (p : Byte × Flags) (v f : Byte) : Prop := p.1 = v ∧ p.2.toByte = f

theorem ofNat8_eq_zero_iff (n : Nat) : BitVec.ofNat 8 n = 0 ↔ n % 256 = 0 := by
  rw [← BitVec.toNat_inj, BitVec.toNat_ofNat]
  rfl

theorem ofNat8_mod (n : Nat) : BitVec.ofNat 8 (n % 256) = BitVec.ofNat 8 n :=
  BitVec.eq_of_toNat_eq (by rw [BitVec.toNat_ofNat, BitVec.toNat_ofNat, Nat.mod_mod])

theorem carryNat_eq (c : Bool) : carryNat c = c.toNat := by cases c <;> rfl

/-- A result of the form `m % 256`, with Z for zero, gives what the statements write for it. -/
theorem gives_of_mod {r : Byte} {m : Nat} (hr : r = BitVec.ofNat 8 (m % 256)) (n h c : Bool) :
    Gives (r, ⟨decide (r = 0), n, h, c⟩) (BitVec.ofNat 8 (m % 256))
      (flagByte (decide (m % 256 = 0)) n h c) := by
  have hz : r = 0 ↔ m % 256 = 0 := by rw [hr, ofNat8_eq_zero_iff, Nat.mod_mod]
  exact ⟨hr, by rw [flagByte_eq, decide_eq_decide.2 hz]⟩

/-! ## The operations (R220, R229-R240) -/

/-- Add8 (R220). -/
theorem add8_gives (a b : Byte) (c : Bool) :
    Gives (add8 a b c) (addResult a.toNat b.toNat c.toNat) (addFlags a.toNat b.toNat c.toNat) := by
  rw [add8, carryNat_eq]
  exact gives_of_mod (ofNat8_mod _).symm false _ _

/-- The low byte of a difference (R220). -/
theorem ofInt_sub_eq_subResult (a b : Byte) (c : Bool) :
    BitVec.ofInt 8 ((a.toNat : Int) - b.toNat - c.toNat) = subResult a.toNat b.toNat c.toNat := by
  have hb := b.isLt
  have hc := c.toNat_le
  apply BitVec.eq_of_toNat_eq
  rw [subResult, BitVec.toNat_ofInt, BitVec.toNat_ofNat]
  omega

/-- Sub8 (R220). -/
theorem sub8_gives (a b : Byte) (c : Bool) :
    Gives (sub8 a b c) (subResult a.toNat b.toNat c.toNat) (subFlags a.toNat b.toNat c.toNat) := by
  rw [sub8, carryNat_eq]
  exact gives_of_mod (ofInt_sub_eq_subResult a b c) true _ _

/-- CP keeps A and takes the flags of the difference (R235). -/
theorem cp_gives (a b : Byte) (c : Bool) :
    Gives (aluApply .cp a b c) a (subFlags a.toNat b.toNat 0) := ⟨rfl, (sub8_gives a b false).2⟩

theorem logic8_gives (v : Byte) (h : Bool) :
    Gives (logic8 v h) v (flagByte (decide (v.toNat = 0)) false h false) := by
  refine ⟨rfl, ?_⟩
  have hz : v = 0 ↔ v.toNat = 0 := BitVec.toNat_inj.symm
  rw [flagByte_eq, ← decide_eq_decide.2 hz]
  rfl

/-- The low nibble of a byte, by a mask. -/
theorem and_0x0F_eq_iff (v m : Byte) : v &&& 0x0F = m ↔ v.toNat % 16 = m.toNat := by
  have hmask : (v &&& 0x0F).toNat = v.toNat % 16 := Nat.and_two_pow_sub_one_eq_mod v.toNat 4
  rw [← BitVec.toNat_inj, hmask]

/-- INC of a byte (R237). -/
theorem inc8_gives (v : Byte) (f : Flags) :
    Gives (inc8 v f) (BitVec.ofNat 8 ((v.toNat + 1) % 256))
      (flagByte (decide ((v.toNat + 1) % 256 = 0)) false (decide (v.toNat % 16 = 15)) f.c) := by
  have hres : v + 1 = BitVec.ofNat 8 ((v.toNat + 1) % 256) := by
    rw [ofNat8_mod]
    exact BitVec.eq_of_toNat_eq (BitVec.toNat_add v 1)
  rw [inc8, decide_eq_decide.2 (and_0x0F_eq_iff v 0x0F)]
  exact gives_of_mod hres false _ _

/-- DEC of a byte (R239). -/
theorem dec8_gives (v : Byte) (f : Flags) :
    Gives (dec8 v f) (BitVec.ofNat 8 ((v.toNat + 255) % 256))
      (flagByte (decide ((v.toNat + 255) % 256 = 0)) true (decide (v.toNat % 16 = 0)) f.c) := by
  have hres : v - 1 = BitVec.ofNat 8 ((v.toNat + 255) % 256) := by
    rw [ofNat8_mod, Nat.add_comm]
    exact BitVec.eq_of_toNat_eq (BitVec.toNat_sub v 1)
  rw [dec8, decide_eq_decide.2 (and_0x0F_eq_iff v 0x00)]
  exact gives_of_mod hres true _ _

/-! ## Ending with a write of A and F -/

/-- An instruction that writes an operation's result to A and its flags to F. -/
theorem setA_setFlags_advance {s : State} {p : Byte × Flags} {v f : Byte} (h : Gives p v f) (len n : Nat) :
    ((s.setA p.1).setFlags p.2).advance len n = doneAF s v f (pcAfter s len) n := by
  obtain ⟨rfl, rfl⟩ := h
  rw [setFlags_advance_eq_doneF (s := s) (u := s.setA p.1) rfl rfl, flagByte_eq]
  rfl

/-- The same for an `r8` operand in place of A. -/
theorem set8_setFlags_advance {s : State} {p : Byte × Flags} {v f : Byte} (r : R8) (h : Gives p v f)
    (len n : Nat) :
    ((set8 r p.1 s).setFlags p.2).advance len n = doneF (set8 r v s) f (pcAfter s len) n := by
  obtain ⟨rfl, rfl⟩ := h
  obtain ⟨_, _, _, _, hpc, hbug⟩ := set8_control r p.1 s
  rw [setFlags_advance_eq_doneF hpc hbug, flagByte_eq]

/-! ## The two-operand operations (R221-R236) -/

theorem formOf_aluR8 (o : AluOp) (r : R8) : formOf (.aluR8 o r) = .aluR8 o r := by
  cases o <;> cases r <;> rfl

theorem formOf_aluN8 (o : AluOp) (n : Byte) : formOf (.aluN8 o n) = .aluN8 o n := by cases o <;> rfl

theorem encode_aluN8 (o : AluOp) (n : Byte) : encode (.aluN8 o n) = [op (0xC6 + 8 * aluCode o), n] := by
  cases o <;> rfl

theorem cost_aluR8 (o : AluOp) (r : R8) (b : Byte) (s : State) :
    cost (op (0x80 + 8 * aluCode o + r8Code r)) b s = if r = .mHL then 8 else 4 := by
  cases o <;> cases r <;> rfl

theorem cost_aluN8 (o : AluOp) (b : Byte) (s : State) : cost (op (0xC6 + 8 * aluCode o)) b s = 8 := by
  cases o <;> rfl

/-- `alu A,r8` takes what its operation gives. -/
theorem runs_aluR8 {o : AluOp} {r : R8} {s : State} {v f : Byte}
    (h : Gives (aluApply o s.cpu.a (get8 r s) (flagC s)) v f) :
    Runs (.aluR8 o r) [op (0x80 + 8 * aluCode o + r8Code r)] s
      (doneAF s v f (pcAfter s 1) (if r = .mHL then 8 else 4)) :=
  runs_of_form (formOf_aluR8 o r) nofun (encode_aluR8 o r) (congrArg _ (setA_setFlags_advance h 1 _))
    (cost_aluR8 o r _ s)

/-- `alu A,n8` takes what its operation gives. -/
theorem runs_aluN8 {o : AluOp} {n : Byte} {s : State} {v f : Byte}
    (h : Gives (aluApply o s.cpu.a n (flagC s)) v f) :
    Runs (.aluN8 o n) [op (0xC6 + 8 * aluCode o), n] s (doneAF s v f (pcAfter s 2) 8) :=
  runs_of_form (formOf_aluN8 o n) nofun (encode_aluN8 o n) (congrArg _ (setA_setFlags_advance h 2 _))
    (cost_aluN8 o n s)

/-- Settles O35: each operation is Add8 or Sub8 of its operands, and CP writes A back. -/
theorem arithmeticSetsAAndFlags : Obligations.ArithmeticSetsAAndFlags := by
  intro s r n
  exact ⟨runs_aluR8 (o := .add) (add8_gives _ _ false), runs_aluR8 (o := .adc) (add8_gives _ _ _),
    runs_aluR8 (o := .sub) (sub8_gives _ _ false), runs_aluR8 (o := .sbc) (sub8_gives _ _ _),
    runs_aluR8 (o := .cp) (cp_gives _ _ _),
    runs_aluN8 (o := .add) (add8_gives _ _ false), runs_aluN8 (o := .adc) (add8_gives _ _ _),
    runs_aluN8 (o := .sub) (sub8_gives _ _ false), runs_aluN8 (o := .sbc) (sub8_gives _ _ _),
    runs_aluN8 (o := .cp) (cp_gives _ _ _)⟩

/-- Settles O36: each operation is a logic result with its H. -/
theorem logicSetsAAndFlags : Obligations.LogicSetsAAndFlags := by
  intro s r n
  exact ⟨runs_aluR8 (o := .and) (logic8_gives _ true), runs_aluR8 (o := .xor) (logic8_gives _ false),
    runs_aluR8 (o := .or) (logic8_gives _ false), runs_aluN8 (o := .and) (logic8_gives _ true),
    runs_aluN8 (o := .xor) (logic8_gives _ false), runs_aluN8 (o := .or) (logic8_gives _ false)⟩

/-! ## INC and DEC (R237-R240) -/

theorem formOf_incR8 (r : R8) : formOf (.incR8 r) = .incR8 r := by cases r <;> rfl

theorem formOf_decR8 (r : R8) : formOf (.decR8 r) = .decR8 r := by cases r <;> rfl

theorem encode_incR8 (r : R8) : encode (.incR8 r) = [op (0x04 + 8 * r8Code r)] := by cases r <;> rfl

theorem encode_decR8 (r : R8) : encode (.decR8 r) = [op (0x05 + 8 * r8Code r)] := by cases r <;> rfl

theorem cost_incR8 (r : R8) (b : Byte) (s : State) :
    cost (op (0x04 + 8 * r8Code r)) b s = if r = .mHL then 12 else 4 := by
  cases r <;> rfl

theorem cost_decR8 (r : R8) (b : Byte) (s : State) :
    cost (op (0x05 + 8 * r8Code r)) b s = if r = .mHL then 12 else 4 := by
  cases r <;> rfl

/-- Settles O37: each writes its operand and F with what INC or DEC of the byte gives. -/
theorem incrementAndDecrement : Obligations.IncrementAndDecrement := by
  intro s r
  exact ⟨runs_of_form (formOf_incR8 r) nofun (encode_incR8 r)
      (congrArg _ (set8_setFlags_advance r (inc8_gives (get8 r s) s.flags) 1 _)) (cost_incR8 r _ s),
    runs_of_form (formOf_decR8 r) nofun (encode_decR8 r)
      (congrArg _ (set8_setFlags_advance r (dec8_gives (get8 r s) s.flags) 1 _)) (cost_decR8 r _ s)⟩

/-! ## DAA, CPL, SCF and CCF (R241-R244) -/

/-- The adjustment of DAA: 0x60 for the high digit, 0x06 for the low one (R241). -/
theorem toNat_adjustment (high low : Bool) :
    ((if high then 0x60 else 0x00 : Byte) ||| (if low then 0x06 else 0x00)).toNat =
      96 * high.toNat + 6 * low.toNat := by
  cases high <;> cases low <;> rfl

/-- DAA after an addition (R241). -/
theorem daa8_gives_add (a : Byte) {f : Flags} (hn : f.n = false) :
    let high := f.c || decide (0x99 < a.toNat)
    let low := f.h || decide (9 < a.toNat % 16)
    let sum := (a.toNat + 96 * high.toNat + 6 * low.toNat) % 256
    Gives (daa8 a f) (BitVec.ofNat 8 sum) (flagByte (decide (sum = 0)) false false high) := by
  intro high low sum
  have hres : a + ((if high then 0x60 else 0x00) ||| (if low then 0x06 else 0x00)) = BitVec.ofNat 8 sum := by
    apply BitVec.eq_of_toNat_eq
    rw [BitVec.toNat_add, toNat_adjustment, ofNat8_mod, BitVec.toNat_ofNat, Nat.add_assoc]
  rw [daa8, if_pos hn, hn]
  exact gives_of_mod hres false false high

/-- DAA after a subtraction (R241). -/
theorem daa8_gives_sub (a : Byte) {f : Flags} (hn : f.n = true) :
    let diff := (a.toNat + 256 - 96 * f.c.toNat - 6 * f.h.toNat) % 256
    Gives (daa8 a f) (BitVec.ofNat 8 diff) (flagByte (decide (diff = 0)) true false f.c) := by
  intro diff
  have hres : a - ((if f.c then 0x60 else 0x00) ||| (if f.h then 0x06 else 0x00)) = BitVec.ofNat 8 diff := by
    have hc := f.c.toNat_le
    have hh := f.h.toNat_le
    apply BitVec.eq_of_toNat_eq
    rw [BitVec.toNat_sub, toNat_adjustment, ofNat8_mod, BitVec.toNat_ofNat]
    omega
  have hadd : f.n ≠ false := by simp [hn]
  rw [daa8, if_neg hadd, hn]
  exact gives_of_mod hres true false f.c

theorem xor_0xFF_eq (a : Byte) : a ^^^ 0xFF = BitVec.ofNat 8 (255 - a.toNat) := by
  apply BitVec.eq_of_toNat_eq
  have hnot : a ^^^ 0xFF = ~~~a := BitVec.xor_allOnes
  rw [hnot, BitVec.toNat_not, BitVec.toNat_ofNat]
  omega

/-- DAA writes A and F with what the adjustment gives. -/
theorem runs_daa {s : State} {v f : Byte} (h : Gives (daa8 s.cpu.a s.flags) v f) :
    Runs .daa [0x27] s (doneAF s v f (pcAfter s 1) 4) :=
  runs_of_form (f := .decimalAdjust) rfl nofun rfl (congrArg _ (setA_setFlags_advance h 1 _)) rfl

theorem runs_cpl (s : State) :
    Runs .cpl [0x2F] s (doneAF s (BitVec.ofNat 8 (255 - s.cpu.a.toNat))
      (flagByte (flagZ s) true true (flagC s)) (pcAfter s 1) 4) := by
  have hgives : Gives (s.cpu.a ^^^ 0xFF, { s.flags with n := true, h := true })
      (BitVec.ofNat 8 (255 - s.cpu.a.toNat)) (flagByte (flagZ s) true true (flagC s)) :=
    ⟨xor_0xFF_eq s.cpu.a, (flagByte_eq _ _ _ _).symm⟩
  exact runs_of_form (f := .complementA) rfl nofun rfl (congrArg _ (setA_setFlags_advance hgives 1 _)) rfl

theorem runs_scf (s : State) :
    Runs .scf [0x37] s (doneF s (flagByte (flagZ s) false false true) (pcAfter s 1) 4) :=
  runs_of_form (f := .setCarry) rfl nofun rfl (congrArg _ (setFlags_advance_eq_doneF rfl rfl _ 1 _)) rfl

theorem runs_ccf (s : State) :
    Runs .ccf [0x3F] s (doneF s (flagByte (flagZ s) false false (!flagC s)) (pcAfter s 1) 4) :=
  runs_of_form (f := .complementCarry) rfl nofun rfl (congrArg _ (setFlags_advance_eq_doneF rfl rfl _ 1 _)) rfl

/-- Settles O38: each ends with a write of A and F, or of F alone. -/
theorem accumulatorAdjustments : Obligations.AccumulatorAdjustments := fun s =>
  ⟨fun hn => runs_daa (daa8_gives_add s.cpu.a hn), fun hn => runs_daa (daa8_gives_sub s.cpu.a hn),
    runs_cpl s, runs_scf s, runs_ccf s⟩

end Sys2Proof.Machine
end

section
/-! DAA after ADC and SBC (R220, R224, R228, R241): the arithmetic of two decimal digits packed in a byte. -/

namespace Sys2Proof.Machine

open Sys2Proof.Claims

/-! ## Two decimal digits in a byte -/

/-- Two decimal digits as the number of the byte that packs them. -/
def packed (n : Nat) : Nat := 16 * (n / 10) + n % 10

theorem toNat_bcd {n : Nat} (hn : n < 100) : (bcd n).toNat = packed n := by
  rw [bcd, BitVec.toNat_ofNat, packed]
  omega

theorem packed_digits (p : Nat) {q : Nat} (hq : q < 10) : packed (10 * p + q) = 16 * p + q := by
  rw [packed]
  omega

theorem packed_mod_16 (n : Nat) : packed n % 16 = n % 10 := by
  rw [packed]
  omega

theorem packed_eq_zero_iff (n : Nat) : packed n = 0 ↔ n = 0 := by
  rw [packed]
  omega

/-- A decimal sum with a carry is the sums of its digits, and so is the sum of the packed bytes. -/
theorem add_digits {x y c : Nat} (hx : x < 100) (hy : y < 100) (hc : c ≤ 1) :
    ∃ e d, e ≤ 18 ∧ d ≤ 19 ∧ x + y + c = 10 * e + d ∧ packed x + packed y + c = 16 * e + d ∧
      packed x % 16 + packed y % 16 + c = d := by
  refine ⟨x / 10 + y / 10, x % 10 + y % 10 + c, ?_⟩
  simp only [packed]
  omega

/-- The high digits pass 9, with the carry of the low ones, where the byte passes 0x99. -/
theorem adjustsHigh_iff {e d : Nat} (he : e ≤ 18) (hd : d ≤ 19) :
    255 < 16 * e + d ∨ 0x99 < (16 * e + d) % 256 ↔ 100 ≤ 10 * e + d := by
  omega

/-- The low digits pass 9 where the low nibble does or carries. -/
theorem adjustsLow_iff {e d : Nat} (hd : d ≤ 19) : 15 < d ∨ 9 < (16 * e + d) % 256 % 16 ↔ 10 ≤ d := by
  omega

/-- The carry out of a sum below twice the base is its quotient. -/
theorem toNat_decide_le {b m : Nat} (hm : m < 2 * b) : (decide (b ≤ m)).toNat = m / b := by
  by_cases h : b ≤ m
  · rw [decide_eq_true h, Nat.div_eq_of_lt_le (k := 1) (by omega) (by omega)]
    rfl
  · rw [decide_eq_false h, Nat.div_eq_of_lt (by omega)]
    rfl

/-- The adjusted sum of the digits packs the decimal sum. -/
theorem adjusted_sum {e d : Nat} (he : e ≤ 18) (hd : d ≤ 19) :
    ((16 * e + d) % 256 + 96 * (decide (100 ≤ 10 * e + d)).toNat + 6 * (decide (10 ≤ d)).toNat) % 256 =
      packed ((10 * e + d) % 100) := by
  rw [toNat_decide_le (by omega), toNat_decide_le (by omega)]
  have hdigits : (10 * e + d) % 100 = 10 * (e + d / 10 - 10 * ((10 * e + d) / 100)) + d % 10 := by omega
  rw [hdigits, packed_digits _ (Nat.mod_lt d (by decide))]
  omega

/-- The packed bytes borrow where the decimal numbers do. -/
theorem packed_lt_iff {x y c : Nat} (hc : c ≤ 1) : packed x < packed y + c ↔ x < y + c := by
  simp only [packed]
  omega

/-- The adjusted difference of the packed bytes packs the decimal difference. -/
theorem adjusted_difference {x y c : Nat} (hx : x < 100) (hy : y < 100) (hc : c ≤ 1) :
    ((packed x + 512 - packed y - c) % 256 + 256 - 96 * (decide (x < y + c)).toNat -
      6 * (decide (x % 10 < y % 10 + c)).toNat) % 256 = packed ((x + 100 - y - c) % 100) := by
  simp only [packed]
  by_cases hhigh : x < y + c <;> by_cases hlow : x % 10 < y % 10 + c <;>
    simp only [hhigh, hlow, decide_true, decide_false, Bool.toNat_true, Bool.toNat_false] <;> omega

/-! ## DAA in decimal (R241) -/

/-- DAA makes the byte sum of two digits their decimal sum. -/
theorem daa8_gives_sum {e d : Nat} (he : e ≤ 18) (hd : d ≤ 19) (z : Bool) :
    Gives (daa8 (BitVec.ofNat 8 ((16 * e + d) % 256)) ⟨z, false, decide (15 < d), decide (255 < 16 * e + d)⟩)
      (bcd ((10 * e + d) % 100))
      (flagByte (decide ((10 * e + d) % 100 = 0)) false false (decide (100 ≤ 10 * e + d))) := by
  have h := daa8_gives_add (BitVec.ofNat 8 ((16 * e + d) % 256))
    (f := ⟨z, false, decide (15 < d), decide (255 < 16 * e + d)⟩) rfl
  have hbyte : (BitVec.ofNat 8 ((16 * e + d) % 256)).toNat = (16 * e + d) % 256 := Nat.mod_mod _ _
  simp only [hbyte, ← Bool.decide_or, adjustsHigh_iff he hd, adjustsLow_iff hd, adjusted_sum he hd,
    packed_eq_zero_iff] at h
  exact h

/-- DAA makes the byte difference of packed operands their decimal difference. -/
theorem daa8_gives_difference {x y c : Nat} (hx : x < 100) (hy : y < 100) (hc : c ≤ 1) (z : Bool) :
    Gives (daa8 (subResult (packed x) (packed y) c)
        ⟨z, true, decide (x % 10 < y % 10 + c), decide (x < y + c)⟩)
      (bcd ((x + 100 - y - c) % 100))
      (flagByte (decide ((x + 100 - y - c) % 100 = 0)) true false (decide (x < y + c))) := by
  have h := daa8_gives_sub (subResult (packed x) (packed y) c)
    (f := ⟨z, true, decide (x % 10 < y % 10 + c), decide (x < y + c)⟩) rfl
  have hbyte : (subResult (packed x) (packed y) c).toNat = (packed x + 512 - packed y - c) % 256 :=
    Nat.mod_mod _ _
  simp only [hbyte, adjusted_difference hx hy hc, packed_eq_zero_iff] at h
  exact h

/-! ## An operation and DAA after it -/

theorem ofByte_flagByte (z n h c : Bool) : Flags.ofByte (flagByte z n h c) = ⟨z, n, h, c⟩ := by
  rw [flagByte_eq, ofByte_toByte]

/-- DAA adjusts A by the flags it finds. -/
theorem exec_daa {t : State} {v w : Byte} {z n h c z' n' h' c' : Bool} (ha : t.cpu.a = v)
    (hf : t.cpu.f = flagByte z n h c) (hd : Gives (daa8 v ⟨z, n, h, c⟩) w (flagByte z' n' h' c')) :
    ∃ u, exec .daa t = .next u ∧ u.cpu.a = w ∧ flagC u = c' ∧ flagZ u = z' := by
  have hflags : t.flags = ⟨z, n, h, c⟩ := by rw [State.flags, hf, ofByte_flagByte]
  rw [← ha, ← hflags] at hd
  obtain ⟨_, hexec, _⟩ := runs_daa hd
  exact ⟨_, hexec, rfl, congrArg Flags.c (ofByte_flagByte z' n' h' c'),
    congrArg Flags.z (ofByte_flagByte z' n' h' c')⟩

/-- DAA adjusts the result of the operation before it by that operation's flags. -/
theorem exec_aluN8_daa {o : AluOp} {b v w : Byte} {s : State} {z n h c z' n' h' c' : Bool}
    (ho : Gives (aluApply o s.cpu.a b (flagC s)) v (flagByte z n h c))
    (hd : Gives (daa8 v ⟨z, n, h, c⟩) w (flagByte z' n' h' c')) :
    ∃ t u, exec (.aluN8 o b) s = .next t ∧ exec .daa t = .next u ∧
      u.cpu.a = w ∧ flagC u = c' ∧ flagZ u = z' := by
  obtain ⟨_, hexec, _⟩ := runs_aluN8 ho
  exact ⟨_, exists_and_left.2 ⟨hexec, exec_daa rfl rfl hd⟩⟩

/-- ADC, then DAA, on packed operands (R224, R241). -/
theorem adc_daa {s : State} {x y : Nat} (hx : x < 100) (hy : y < 100) (ha : s.cpu.a = bcd x) :
    let c := (flagC s).toNat
    ∃ t u, exec (.aluN8 .adc (bcd y)) s = .next t ∧ exec .daa t = .next u ∧
      u.cpu.a = bcd ((x + y + c) % 100) ∧ flagC u = decide (100 ≤ x + y + c) ∧
      flagZ u = decide ((x + y + c) % 100 = 0) := by
  intro c
  obtain ⟨e, d, he, hd, hz, hsum, hlow⟩ := add_digits hx hy (flagC s).toNat_le
  have hadc := add8_gives s.cpu.a (bcd y) (flagC s)
  rw [ha, toNat_bcd hx, toNat_bcd hy, addResult, addFlags, hsum, hlow, ← ha] at hadc
  rw [hz]
  exact exec_aluN8_daa hadc (daa8_gives_sum he hd _)

/-- SBC, then DAA, on packed operands (R228, R241). -/
theorem sbc_daa {s : State} {x y : Nat} (hx : x < 100) (hy : y < 100) (ha : s.cpu.a = bcd x) :
    let c := (flagC s).toNat
    ∃ t u, exec (.aluN8 .sbc (bcd y)) s = .next t ∧ exec .daa t = .next u ∧
      u.cpu.a = bcd ((x + 100 - y - c) % 100) ∧ flagC u = decide (x < y + c) ∧
      flagZ u = decide ((x + 100 - y - c) % 100 = 0) := by
  intro c
  have hc : c ≤ 1 := (flagC s).toNat_le
  have hsbc := sub8_gives s.cpu.a (bcd y) (flagC s)
  rw [ha, toNat_bcd hx, toNat_bcd hy, subFlags, packed_mod_16, packed_mod_16,
    decide_eq_decide.2 (packed_lt_iff hc), ← ha] at hsbc
  exact exec_aluN8_daa hsbc (daa8_gives_difference hx hy hc _)

/-- Settles O39: DAA corrects each pair's bytes by the carries or borrows of its two digits. -/
theorem daaCorrectsDecimalArithmetic : Obligations.DaaCorrectsDecimalArithmetic :=
  fun _ _ _ hx hy ha => ⟨adc_daa hx hy ha, sbc_daa hx hy ha⟩

end Sys2Proof.Machine
end

section
/-! The 16-bit arithmetic (R260-R263): each result and its flags in natural numbers, and each instruction by its
form. -/

namespace Sys2Proof.Machine

open Sys2Proof.Claims

/-! ## Results in natural numbers -/

theorem ofNat16_mod (n : Nat) : BitVec.ofNat 16 (n % 65536) = BitVec.ofNat 16 n :=
  BitVec.eq_of_toNat_eq (by rw [BitVec.toNat_ofNat, BitVec.toNat_ofNat, Nat.mod_mod])

/-- 0xFFFF goes to 0x0000 (R261). -/
theorem word_add_one_eq (v : Word) : v + 1 = BitVec.ofNat 16 ((v.toNat + 1) % 65536) := by
  rw [ofNat16_mod]
  exact BitVec.eq_of_toNat_eq (BitVec.toNat_add v 1)

/-- 0x0000 goes to 0xFFFF (R262). -/
theorem word_sub_one_eq (v : Word) : v - 1 = BitVec.ofNat 16 ((v.toNat + 65535) % 65536) := by
  rw [ofNat16_mod, Nat.add_comm]
  exact BitVec.eq_of_toNat_eq (BitVec.toNat_sub v 1)

/-! ## ADD HL,rr (R260) -/

theorem formOf_addHL (rr : R16) : formOf (.addHL rr) = .addHL rr := by cases rr <;> rfl

theorem encode_addHL (rr : R16) : encode (.addHL rr) = [op (0x09 + 16 * r16Code rr)] := by cases rr <;> rfl

theorem cost_addHL (rr : R16) (b : Byte) (s : State) : cost (op (0x09 + 16 * r16Code rr)) b s = 8 := by
  cases rr <;> rfl

theorem runs_addHL (rr : R16) (s : State) :
    Runs (.addHL rr) [op (0x09 + 16 * r16Code rr)] s
      (doneF (set16 .HL (BitVec.ofNat 16 ((s.hl.toNat + (get16 rr s).toNat) % 65536)) s)
        (flagByte (flagZ s) false (decide (4095 < s.hl.toNat % 4096 + (get16 rr s).toNat % 4096))
          (decide (65535 < s.hl.toNat + (get16 rr s).toNat))) (pcAfter s 1) 8) := by
  refine runs_of_form (formOf_addHL rr) nofun (encode_addHL rr) ?_ (cost_addHL rr _ s)
  rw [Form.run, addHL,
    setFlags_advance_eq_doneF (s := s) (u := s.setHL (addHL16 s.hl (get16 rr s) s.flags).1) rfl rfl,
    ofNat16_mod]
  rfl

/-! ## INC rr and DEC rr (R261, R262) -/

theorem formOf_incR16 (rr : R16) : formOf (.incR16 rr) = .incR16 rr := by cases rr <;> rfl

theorem formOf_decR16 (rr : R16) : formOf (.decR16 rr) = .decR16 rr := by cases rr <;> rfl

theorem encode_incR16 (rr : R16) : encode (.incR16 rr) = [op (0x03 + 16 * r16Code rr)] := by cases rr <;> rfl

theorem encode_decR16 (rr : R16) : encode (.decR16 rr) = [op (0x0B + 16 * r16Code rr)] := by cases rr <;> rfl

theorem cost_incR16 (rr : R16) (b : Byte) (s : State) : cost (op (0x03 + 16 * r16Code rr)) b s = 8 := by
  cases rr <;> rfl

theorem cost_decR16 (rr : R16) (b : Byte) (s : State) : cost (op (0x0B + 16 * r16Code rr)) b s = 8 := by
  cases rr <;> rfl

theorem runs_incR16 (rr : R16) (s : State) :
    Runs (.incR16 rr) [op (0x03 + 16 * r16Code rr)] s
      (done (set16 rr (BitVec.ofNat 16 (((get16 rr s).toNat + 1) % 65536)) s) (pcAfter s 1) 8) := by
  rw [← word_add_one_eq]
  exact runs_of_form (formOf_incR16 rr) nofun (encode_incR16 rr) (congrArg _ (set16_advance rr _ s 1 _))
    (cost_incR16 rr _ s)

theorem runs_decR16 (rr : R16) (s : State) :
    Runs (.decR16 rr) [op (0x0B + 16 * r16Code rr)] s
      (done (set16 rr (BitVec.ofNat 16 (((get16 rr s).toNat + 65535) % 65536)) s) (pcAfter s 1) 8) := by
  rw [← word_sub_one_eq]
  exact runs_of_form (formOf_decR16 rr) nofun (encode_decR16 rr) (congrArg _ (set16_advance rr _ s 1 _))
    (cost_decR16 rr _ s)

/-! ## ADD SP,e8 (R263) -/

theorem runs_add_SP_e8 (e : Byte) (s : State) :
    Runs (.add_SP_e8 e) [0xE8, e] s
      (doneF (set16 .SP (BitVec.ofInt 16 ((s.cpu.sp.toNat : Int) + e.toInt)) s)
        (flagByte false false (decide (15 < s.cpu.sp.toNat % 16 + e.toNat % 16))
          (decide (255 < s.cpu.sp.toNat % 256 + e.toNat))) (pcAfter s 2) 16) := by
  refine runs_of_form (f := .addSP e) rfl nofun rfl ?_ rfl
  rw [Form.run, addSP, setFlags_advance_eq_doneF (s := s) (u := s.setSP (addSPe8 s.cpu.sp e).1) rfl rfl,
    addSPe8_fst]
  rfl

/-- Settles O40: each form ends with a write of its pair or SP, and the additions with a write of F. -/
theorem wordArithmetic : Obligations.WordArithmetic := by
  intro s rr e
  rw [word_eq]
  exact ⟨runs_addHL rr s, runs_incR16 rr s, runs_decR16 rr s, runs_add_SP_e8 e s⟩

end Sys2Proof.Machine
end

section
/-! Rotates, shifts, SWAP, BIT, RES and SET (R270-R285): what each gives in natural numbers or bit by bit, said
once for the operation, and each instruction by its form. -/

namespace Sys2Proof.Machine

open Sys2Proof.Claims

/-! ## Rotates and shifts in natural numbers (R275-R282) -/

theorem rotate_fst_lt (o : RotOp) (v : Byte) (c : Bool) : (rotate o v.toNat c.toNat).1 < 256 := by
  have hv := v.isLt
  have hc := c.toNat_le
  cases o <;> simp only [rotate] <;> omega

/-- The bit that a left rotate or shift moves out. -/
theorem getLsbD_7_eq (v : Byte) : v.getLsbD 7 = decide (v.toNat / 128 = 1) := by
  have htop : v.toNat / 128 % 2 = v.toNat / 128 := Nat.mod_eq_of_lt (Nat.div_lt_of_lt_mul v.isLt)
  exact Nat.testBit_eq_decide_div_mod_eq.trans (by rw [htop])

/-- The carry out: the bit moved out, none for SWAP. -/
theorem rotApply_snd (o : RotOp) (v : Byte) (c : Bool) :
    (rotApply o v c).2 = decide ((rotate o v.toNat c.toNat).2 = 1) := by
  cases o
  case swap => rfl
  case rlc | rl | sla => exact getLsbD_7_eq v
  case rrc | rr | sra | srl => exact Nat.testBit_zero v.toNat

/-- The prefixed rotates and shifts take Z from the result (R274). -/
theorem rotFlags_gives (o : RotOp) (v : Byte) (c : Bool) :
    let p := rotate o v.toNat c.toNat
    Gives ((rotApply o v c).1, rotFlags (rotApply o v c).1 (rotApply o v c).2) (BitVec.ofNat 8 p.1)
      (flagByte (decide (p.1 = 0)) false false (decide (p.2 = 1))) := by
  intro p
  have hp : p.1 % 256 = p.1 := Nat.mod_eq_of_lt (rotate_fst_lt o v c)
  have hres : (rotApply o v c).1 = BitVec.ofNat 8 (p.1 % 256) := by rw [hp, rotApply_fst]
  have h := gives_of_mod hres false false (decide (p.2 = 1))
  rw [hp] at h
  rw [rotApply_snd]
  exact h

/-- The rotates of A clear Z (R270-R273). -/
theorem rotAFlags_gives (o : RotOp) (v : Byte) (c : Bool) :
    let p := rotate o v.toNat c.toNat
    Gives ((rotApply o v c).1, rotAFlags (rotApply o v c).2) (BitVec.ofNat 8 p.1)
      (flagByte false false false (decide (p.2 = 1))) :=
  ⟨rotApply_fst o v c, by rw [rotApply_snd, flagByte_eq, rotAFlags]⟩

/-! ## The rotating instructions (R270-R282) -/

theorem formOf_rotR8 (o : RotOp) (r : R8) : formOf (.rotR8 o r) = .rotateR8 o r := by
  cases o <;> cases r <;> rfl

theorem cost_rotR8 (o : RotOp) (r : R8) (s : State) :
    cost 0xCB (op (8 * rotCode o + r8Code r)) s = if r = .mHL then 16 else 8 := by
  cases o <;> cases r <;> rfl

/-- An instruction whose form rotates A. -/
theorem runs_rotateA {i : Instr} {o : RotOp} {b : Byte} (s : State) (hf : formOf i = .rotateA o)
    (henc : encode i = [b]) (hcost : cost b 0 s = 4) :
    Runs i [b] s (doneAF s (BitVec.ofNat 8 (rotate o s.cpu.a.toNat (flagC s).toNat).1)
      (flagByte false false false (decide ((rotate o s.cpu.a.toNat (flagC s).toNat).2 = 1)))
      (pcAfter s 1) 4) :=
  runs_of_form hf nofun henc
    (congrArg _ (setA_setFlags_advance (rotAFlags_gives o s.cpu.a (flagC s)) 1 _)) hcost

/-- Settles O41: each writes A or its operand and F with what the rotate or shift gives. -/
theorem rotatesAndShifts : Obligations.RotatesAndShifts := by
  intro s o r
  exact ⟨runs_rotateA s rfl rfl rfl, runs_rotateA s rfl rfl rfl, runs_rotateA s rfl rfl rfl,
    runs_rotateA s rfl rfl rfl,
    runs_of_form (formOf_rotR8 o r) nofun (encode_rotR8 o r)
      (congrArg _ (set8_setFlags_advance r (rotFlags_gives o (get8 r s) (flagC s)) 2 _)) (cost_rotR8 o r s)⟩

/-! ## One bit of a byte (R284, R285) -/

theorem u3Code_lt (u : U3) : u3Code u < 8 := by cases u <;> decide

/-- The mask of one bit. -/
theorem getLsbD_bitMask {i : Nat} (hi : i < 8) (j : Nat) : ((1 : Byte) <<< i).getLsbD j = decide (j = i) := by
  have h := BitVec.getLsbD_twoPow (w := 8) i j
  rw [decide_eq_true hi, Bool.true_and, decide_eq_decide.2 eq_comm] at h
  exact h

theorem getLsbD_clearBit (v : Byte) {i : Nat} (hi : i < 8) (j : Nat) :
    (v &&& ~~~((1 : Byte) <<< i)).getLsbD j = (decide (j ≠ i) && v.getLsbD j) := by
  rw [BitVec.getLsbD_and, BitVec.getLsbD_not, getLsbD_bitMask hi, decide_not]
  by_cases hj : j < 8
  · rw [decide_eq_true hj, Bool.true_and, Bool.and_comm]
  · rw [BitVec.getLsbD_of_ge v j (Nat.le_of_not_lt hj), Bool.false_and, Bool.and_false]

theorem getLsbD_setBit (v : Byte) {i : Nat} (hi : i < 8) (j : Nat) :
    (v ||| ((1 : Byte) <<< i)).getLsbD j = (decide (j = i) || v.getLsbD j) := by
  rw [BitVec.getLsbD_or, getLsbD_bitMask hi, Bool.or_comm]

/-! ## BIT, RES and SET (R283-R285) -/

theorem formOf_bitR8 (u : U3) (r : R8) : formOf (.bitR8 u r) = .testBitR8 u r := by
  cases u <;> cases r <;> rfl

theorem formOf_resR8 (u : U3) (r : R8) : formOf (.resR8 u r) = .resetBitR8 u r := by
  cases u <;> cases r <;> rfl

theorem formOf_setR8 (u : U3) (r : R8) : formOf (.setR8 u r) = .setBitR8 u r := by
  cases u <;> cases r <;> rfl

theorem cost_bitR8 (u : U3) (r : R8) (s : State) :
    cost 0xCB (op (0x40 + 8 * u3Code u + r8Code r)) s = if r = .mHL then 12 else 8 := by
  cases u <;> cases r <;> rfl

theorem cost_resR8 (u : U3) (r : R8) (s : State) :
    cost 0xCB (op (0x80 + 8 * u3Code u + r8Code r)) s = if r = .mHL then 16 else 8 := by
  cases u <;> cases r <;> rfl

theorem cost_setR8 (u : U3) (r : R8) (s : State) :
    cost 0xCB (op (0xC0 + 8 * u3Code u + r8Code r)) s = if r = .mHL then 16 else 8 := by
  cases u <;> cases r <;> rfl

/-- BIT writes F alone. -/
theorem runs_bitR8 (u : U3) (r : R8) (s : State) :
    Runs (.bitR8 u r) [0xCB, op (0x40 + 8 * u3Code u + r8Code r)] s
      (doneF s (flagByte (!(get8 r s).getLsbD (u3Code u)) false true (flagC s)) (pcAfter s 2)
        (if r = .mHL then 12 else 8)) := by
  refine runs_of_form (formOf_bitR8 u r) nofun (encode_bitR8 u r) ?_ (cost_bitR8 u r s)
  rw [u3Code_eq]
  exact congrArg _ (setFlags_advance_eq_doneF rfl rfl _ 2 _)

theorem runs_resR8 (u : U3) (r : R8) (s : State) :
    Runs (.resR8 u r) [0xCB, op (0x80 + 8 * u3Code u + r8Code r)] s
      (done (set8 r (get8 r s &&& ~~~((1 : Byte) <<< u.code)) s) (pcAfter s 2)
        (if r = .mHL then 16 else 8)) :=
  runs_of_form (formOf_resR8 u r) nofun (encode_resR8 u r) (congrArg _ (set8_advance r _ s 2 _))
    (cost_resR8 u r s)

theorem runs_setR8 (u : U3) (r : R8) (s : State) :
    Runs (.setR8 u r) [0xCB, op (0xC0 + 8 * u3Code u + r8Code r)] s
      (done (set8 r (get8 r s ||| ((1 : Byte) <<< u.code)) s) (pcAfter s 2)
        (if r = .mHL then 16 else 8)) :=
  runs_of_form (formOf_setR8 u r) nofun (encode_setR8 u r) (congrArg _ (set8_advance r _ s 2 _))
    (cost_setR8 u r s)

/-- Settles O42: BIT ends with a write of F, RES and SET with a write of the operand under the bit's mask. -/
theorem bitInstructions : Obligations.BitInstructions := by
  intro s u r
  have hu : u.code < 8 := u3Code_eq u ▸ u3Code_lt u
  refine ⟨runs_bitR8 u r s, ⟨_, fun j => ?_, runs_resR8 u r s⟩, ⟨_, fun j => ?_, runs_setR8 u r s⟩⟩
  · rw [getLsbD_clearBit _ hu, u3Code_eq]
  · rw [getLsbD_setBit _ hu, u3Code_eq]

end Sys2Proof.Machine
end

section
/-! Jumps, calls and returns (R300-R310): the cost of a conditional instruction said once, each form's two ends,
and a return after a call, an RST or an interrupt entry (R412, R414). -/

namespace Sys2Proof.Machine

open Sys2Proof.Claims

/-! ## A pop after a push, whatever else the CPU does in between -/

theorem push16_cpu (v : Word) (s : State) : (push16 v s).cpu = { s.cpu with sp := s.cpu.sp - 2 } := by
  rw [push16_eq]

/-- Keys depend on the cartridge alone. -/
theorem storeKey_of_cart_eq {s t : State} (h : t.cart = s.cart) (a : Word) : storeKey a t = storeKey a s := by
  rw [storeKey, storeKey, h]

/-- The pushed word stays at the top of the stack while SP does. -/
theorem pop16Value_of_push16 {s t : State} {k l : Nat} (hk : storeKey (s.cpu.sp - 1) s = some k)
    (hl : storeKey (s.cpu.sp - 2) s = some l) (hne : k ≠ l) {v : Word}
    (ht : t = { push16 v s with cpu := t.cpu, cycles := t.cycles }) (hsp : t.cpu.sp = s.cpu.sp - 2) :
    pop16Value t = v := by
  have hread (a : Word) : busRead a t = busRead a (push16 v s) := by rw [ht, busRead_withCpu]
  have htop := pop16Value_push16 hk hl hne v
  rwa [pop16Value, busRead16, push16_cpu, ← hread, ← hread, ← hsp] at htop

/-- RET after a push goes to the pushed word, with SP where it was before the push (R307). -/
theorem ret_after_push16 {s : State} {k l : Nat} (hk : storeKey (s.cpu.sp - 1) s = some k)
    (hl : storeKey (s.cpu.sp - 2) s = some l) (hne : k ≠ l) (v pc : Word) (n : Nat) :
    (ret ((push16 v s).retire pc n)).cpu = { s.cpu with pc := v, haltBugPending := false } := by
  have hsp : ((push16 v s).retire pc n).cpu.sp = s.cpu.sp - 2 := by rw [retire_cpu_sp, push16_cpu]
  have hv : pop16Value ((push16 v s).retire pc n) = v := pop16Value_of_push16 hk hl hne rfl hsp
  rw [ret, retBy, hv]
  simp only [State.retire, pop16, State.setSP, push16_cpu, BitVec.sub_add_cancel]

/-! ## A return after the call or the interrupt entry (R305, R307, R309, R310, R412, R414) -/

theorem exec_ret (s : State) : exec .ret s = .next (ret s) := exec_form .ret s

theorem exec_reti (s : State) : exec .reti s = .next (retI s) := exec_form .reti s

theorem exec_call (a : Word) (s : State) : exec (.call_a16 a) s = .next (callTo 0xCD a s) :=
  exec_form (.call_a16 a) s

theorem exec_rst (u : U3) (s : State) : exec (.rst u) s = .next (restart u s) :=
  exec_of_formOf (formOf_rst u) s

theorem rstTarget_eq (u : U3) : rstTarget u = BitVec.ofNat 16 (8 * u3Code u) := by rw [rstTarget, u3Code_eq]

theorem toNat_rstTarget (u : U3) : (rstTarget u).toNat = 8 * u3Code u := by cases u <;> rfl

/-- The state that interrupt entry pushes the PC from: past the overlay check, with the request and IME
cleared. -/
def entryState (s : State) : State :=
  ((overlayCheck s).clearIF (lowestBit (overlayCheck s).pendingBits)).setIME false

theorem entryState_cpu (s : State) : (entryState s).cpu = { s.cpu with ime := false } := by
  rw [entryState, State.setIME, State.clearIF, overlayCheck_cpu]

theorem storeKey_entryState (a : Word) (s : State) : storeKey a (entryState s) = storeKey a s :=
  storeKey_of_cart_eq (by rw [entryState, overlayCheck_eq]; rfl) a

theorem readKey_entryState (s : State) (j : Nat) : (entryState s).readKey j = s.readKey j := by
  rw [entryState, overlayCheck_eq]
  rfl

/-- A step that takes an interrupt is a push of the PC from there, and a jump (R403, R412). -/
theorem cpuStep_entry {s : State} (hr : s.cpu.runState = .running) (hi : s.takesInterrupt = true) :
    ∃ a, cpuStep s = .next { push16 s.cpu.pc (entryState s) with
      cpu := { s.cpu with sp := s.cpu.sp - 2, ime := false, pc := a }, cycles := 20 } := by
  have hpc : (overlayCheck s).cpu.pc = s.cpu.pc := by rw [overlayCheck_cpu]
  refine ⟨vector (lowestBit (overlayCheck s).pendingBits), ?_⟩
  rw [cpuStep_service hr hi, serviceStep_eq, hpc, ← entryState, State.setPC, push16_cpu, entryState_cpu]

/-- RETI after an interrupt entry gives every register back, with IME set, and the bytes outside the stack
are as before (R309, R414). -/
theorem reti_after_entry {s : State} {k l : Nat} (hk : storeKey (s.cpu.sp - 1) s = some k)
    (hl : storeKey (s.cpu.sp - 2) s = some l) (hne : k ≠ l) (hr : s.cpu.runState = .running)
    (hime : s.cpu.ime = true) (hi : s.takesInterrupt = true) :
    ∃ t v, cpuStep s = .next t ∧ t.cpu.ime = false ∧ exec .reti t = .next v ∧
      v.cpu = { s.cpu with haltBugPending := false } ∧
      ∀ j, j ≠ k → j ≠ l → v.readKey j = s.readKey j := by
  obtain ⟨a, hstep⟩ := cpuStep_entry hr hi
  have hsp : (entryState s).cpu.sp = s.cpu.sp := by rw [entryState_cpu]
  have hk' : storeKey ((entryState s).cpu.sp - 1) (entryState s) = some k := by
    rw [hsp, storeKey_entryState, hk]
  have hl' : storeKey ((entryState s).cpu.sp - 2) (entryState s) = some l := by
    rw [hsp, storeKey_entryState, hl]
  refine ⟨_, _, hstep, rfl, exec_reti _, ?_, fun j hjk hjl => ?_⟩
  · rw [retI, returnFromInterrupt, pop16Value_of_push16 hk' hl' hne rfl (by rw [hsp])]
    simp only [State.retire, State.setIME, pop16, State.setSP, BitVec.sub_add_cancel, ← hime]
  · calc (push16 s.cpu.pc (entryState s)).readKey j = (entryState s).readKey j := by
          rw [readKey_push16 hk' hl', if_neg hjl, if_neg hjk]
      _ = s.readKey j := readKey_entryState s j

/-- Settles O45: the return pops the word that the call, the RST or the interrupt entry pushed. -/
theorem returnsUndoCallsAndInterrupts : Obligations.ReturnsUndoCallsAndInterrupts := by
  intro s k l hk hl hne
  simp only [pcAfter_eq]
  refine ⟨fun a => ⟨_, _, exec_call a s, rfl, exec_ret _, ret_after_push16 hk hl hne _ _ _⟩,
    fun u => ⟨_, _, exec_rst u s, toNat_rstTarget u, exec_ret _, ret_after_push16 hk hl hne _ _ _⟩,
    fun hr hime hp => reti_after_entry hk hl hne hr hime ?_⟩
  rw [State.takesInterrupt, hime, (interruptPending_iff s).1 hp, Bool.and_self]

/-! ## Conditional instructions -/

/-- The entry of a first byte in the cost table, a conditional form's cost when taken (R530). -/
def costEntry (o : Byte) : Nat := (costRows0 ++ costRows1 ++ costRows2 ++ costRows3).getD o.toNat 0

/-- The cost of a conditional instruction (R530). -/
theorem cost_conditional {o b : Byte} {c : Cond} {n : Nat} (h : (o, c, n) ∈ notTaken) (s : State) :
    cost o b s = if condition c s then costEntry o else n := by
  have ho : o ≠ 0xCB := by
    rintro rfl
    exact absurd h (by simp [notTaken])
  rw [cost, if_neg ho]
  cases hf : notTaken.find? fun r => r.1 = o && !condition r.2.1 s with
  | none =>
    have hc : condition c s = true := by simpa using List.find?_eq_none.1 hf _ h
    rw [if_pos hc]
    rfl
  | some r =>
    obtain ⟨hro, hc⟩ : r.1 = o ∧ condition r.2.1 s = false := by simpa using List.find?_some hf
    obtain rfl : r = (o, c, n) := notTaken_unique r (List.mem_of_find?_eq_some hf) _ h hro
    rw [hc]
    rfl

/-- An instruction runs as its form does, whose cost is the one the form's end carries. -/
theorem runs_of_ending {i : Instr} {f : Form} {code : List Byte} {s t : State} {n : Nat} (hf : formOf i = f)
    (hp : f ≠ .prefixCB) (henc : encode i = code) (hrun : f.run s = .next { t with cycles := n })
    (hcost : cost (code.getD 0 0) (code.getD 1 0) s = t.cycles) : Runs i code s t :=
  runs_of_form hf hp henc (by rw [hrun, ← form_cycles hp hrun]) hcost

/-- A conditional instruction ends in `t` where its condition holds, in `u` where it does not. -/
theorem runs_conditional {i : Instr} {f : Form} {c : Cond} {o : Byte} {tl : List Byte} {s t u : State}
    {m n : Nat} (hf : formOf i = f) (hp : f ≠ .prefixCB) (henc : encode i = o :: tl)
    (hrun : f.run s = .next (if condHolds c s then { t with cycles := m } else { u with cycles := n }))
    (hmem : (o, c, u.cycles) ∈ notTaken) (hcost : costEntry o = t.cycles) :
    Runs i (o :: tl) s (if condition c s then t else u) := by
  have hc := cost_conditional (b := tl.getD 0 0) hmem s
  rw [← condition_eq] at hrun
  by_cases h : condition c s = true
  · rw [if_pos h] at hrun hc ⊢
    exact runs_of_ending hf hp henc hrun (hc.trans hcost)
  · rw [if_neg h] at hrun hc ⊢
    exact runs_of_ending hf hp henc hrun hc

/-! ## Jumps (R300-R304) -/

/-- Adding a sign-extended byte is adding its value (R303). -/
theorem relTarget_eq (pc : Word) (e : Byte) :
    relTarget pc e = BitVec.ofInt 16 ((pc.toNat : Int) + e.toInt) := addSPe8_fst pc e

theorem formOf_jpCC (c : Cond) (a : Word) : formOf (.jpCC c a) = .jumpIf c a := by cases c <;> rfl

theorem formOf_jrCC (c : Cond) (e : Byte) : formOf (.jrCC c e) = .jumpRelIf c e := by cases c <;> rfl

theorem encode_jpCC (c : Cond) (a : Word) :
    encode (.jpCC c a) = [op (0xC2 + 8 * ccCode c), loByte a, hiByte a] := by
  cases c <;> rfl

theorem encode_jrCC (c : Cond) (e : Byte) : encode (.jrCC c e) = [op (0x20 + 8 * ccCode c), e] := by
  cases c <;> rfl

theorem notTaken_jpCC (c : Cond) : (op (0xC2 + 8 * ccCode c), c, 12) ∈ notTaken := by
  cases c <;> decide

theorem runs_jpCC (c : Cond) (a : Word) (s : State) :
    Runs (.jpCC c a) [op (0xC2 + 8 * ccCode c), loByte a, hiByte a] s
      (if condition c s then done s a 16 else done s (s.pcNext 3) 12) :=
  runs_conditional (formOf_jpCC c a) nofun (encode_jpCC c a) rfl (notTaken_jpCC c) (by cases c <;> rfl)

theorem notTaken_jrCC (c : Cond) : (op (0x20 + 8 * ccCode c), c, 8) ∈ notTaken := by
  cases c <;> decide

theorem runs_jrCC (c : Cond) (e : Byte) (s : State) :
    Runs (.jrCC c e) [op (0x20 + 8 * ccCode c), e] s
      (if condition c s then done s (relTarget (s.pcNext 2) e) 12 else done s (s.pcNext 2) 8) :=
  runs_conditional (formOf_jrCC c e) nofun (encode_jrCC c e) rfl (notTaken_jrCC c) (by cases c <;> rfl)

/-- Settles O43: each form writes the PC and nothing else but the cost. -/
theorem jumps : Obligations.Jumps := by
  intro s c a e
  simp only [low_eq, high_eq, word_eq, pcAfter_eq, ← relTarget_eq]
  exact ⟨runs_of_ending (f := .jump a) rfl nofun rfl rfl rfl, runs_jpCC c a s,
    runs_of_ending (f := .jumpHL) rfl nofun rfl rfl rfl,
    runs_of_ending (f := .jumpRel e) rfl nofun rfl rfl rfl, runs_jrCC c e s⟩

/-! ## Calls and returns (R305-R310) -/

theorem formOf_retCC (c : Cond) : formOf (.retCC c) = .retIf c := by cases c <;> rfl

theorem encode_callCC (c : Cond) (a : Word) :
    encode (.callCC c a) = [op (0xC4 + 8 * ccCode c), loByte a, hiByte a] := by
  cases c <;> rfl

theorem encode_retCC (c : Cond) : encode (.retCC c) = [op (0xC0 + 8 * ccCode c)] := by cases c <;> rfl

theorem encode_rst (u : U3) : encode (.rst u) = [op (0xC7 + 8 * u3Code u)] := by cases u <;> rfl

theorem cost_rst (u : U3) (b : Byte) (s : State) : cost (op (0xC7 + 8 * u3Code u)) b s = 16 := by
  cases u <;> rfl

theorem notTaken_callCC (c : Cond) : (op (0xC4 + 8 * ccCode c), c, 12) ∈ notTaken := by
  cases c <;> decide

theorem runs_callCC (c : Cond) (a : Word) (s : State) :
    Runs (.callCC c a) [op (0xC4 + 8 * ccCode c), loByte a, hiByte a] s
      (if condition c s then done (push16 (s.pcNext 3) s) a 24 else done s (s.pcNext 3) 12) :=
  runs_conditional (formOf_callCC c a) nofun (encode_callCC c a) rfl (notTaken_callCC c)
    (by cases c <;> rfl)

theorem notTaken_retCC (c : Cond) : (op (0xC0 + 8 * ccCode c), c, 8) ∈ notTaken := by
  cases c <;> decide

theorem runs_retCC (c : Cond) (s : State) :
    Runs (.retCC c) [op (0xC0 + 8 * ccCode c)] s
      (if condition c s then done (pop16 s) (pop16Value s) 20 else done s (s.pcNext 1) 8) :=
  runs_conditional (formOf_retCC c) nofun (encode_retCC c) rfl (notTaken_retCC c) (by cases c <;> rfl)

theorem runs_rst (u : U3) (s : State) :
    Runs (.rst u) [op (0xC7 + 8 * u3Code u)] s (done (push16 (s.pcNext 1) s) (rstTarget u) 16) :=
  runs_of_ending (formOf_rst u) nofun (encode_rst u) rfl (cost_rst u _ s)

/-- Settles O44: a call or RST ends as its push and jump do, a return as its pop does. -/
theorem callsAndReturns : Obligations.CallsAndReturns := by
  intro s c u a
  simp only [low_eq, high_eq, pcAfter_eq, pushed_eq, popped_eq, unstacked_eq, ← rstTarget_eq]
  exact ⟨runs_of_ending (f := .call a) rfl nofun rfl rfl rfl, runs_callCC c a s,
    runs_of_ending (f := .ret) rfl nofun rfl rfl rfl, runs_retCC c s,
    runs_of_ending (f := .retI) rfl nofun rfl rfl rfl, runs_rst u s⟩

end Sys2Proof.Machine
end

section
/-! CPU control (R320-R324): HALT's outcomes said one by one, with IME or nothing pending and in each mode of
the halt bug, and the runs of NOP, HALT, DI and EI. -/

namespace Sys2Proof.Machine

open Sys2Proof.Claims

/-! ## HALT and EI by mode (R321, R322, R324) -/

theorem halt_of_not_bug {s : State} (h : ¬(s.cpu.ime = false ∧ s.pending)) :
    halt s = (s.advance 1 (s.opCost 0x76)).setRunState .halted := if_neg h

theorem halt_of_bug {s : State} (h : s.cpu.ime = false ∧ s.pending) : halt s = haltBug s := if_pos h

theorem haltBug_skip2 {s : State} (h : s.params.haltBugMode = .skip2) :
    haltBug s = s.retire (s.cpu.pc + 2) (s.opCost 0x76) := by rw [haltBug, h]

theorem haltBug_replay {s : State} (h : s.params.haltBugMode = .replay) :
    haltBug s = (s.advance 1 (s.opCost 0x76)).setHaltBugPending true := by rw [haltBug, h]

theorem haltBug_ignore {s : State} (h : s.params.haltBugMode = .ignore) :
    haltBug s = (s.advance 1 (s.opCost 0x76)).setRunState .halted := by rw [haltBug, h]

theorem enableInterrupts_at_once {s : State} (h : s.params.eiDelay = false) :
    enableInterrupts s = (s.setIME true).advance 1 (s.opCost 0xFB) := by
  rw [enableInterrupts, h, if_neg Bool.false_ne_true]

theorem enableInterrupts_delayed {s : State} (h : s.params.eiDelay = true) :
    enableInterrupts s = (s.setEiPending true).advance 1 (s.opCost 0xFB) := by
  rw [enableInterrupts, h, if_pos rfl]

/-! ## The runs -/

/-- HALT runs to the state `halt` answers, whose cost is 4. -/
theorem runs_halt {s t : State} {n : Nat} (h : halt s = { t with cycles := n }) (ht : t.cycles = 4) :
    Runs .halt [0x76] s t :=
  runs_of_ending (f := .halt) rfl nofun rfl (congrArg _ h) ht.symm

/-- EI runs to the state `enableInterrupts` answers, whose cost is 4. -/
theorem runs_ei {s t : State} {n : Nat} (h : enableInterrupts s = { t with cycles := n })
    (ht : t.cycles = 4) : Runs .ei [0xFB] s t :=
  runs_of_ending (f := .enableInterrupts) rfl nofun rfl (congrArg _ h) ht.symm

/-- Settles O46: NOP and DI have one end each, HALT and EI one for each mode. -/
theorem cpuControl : Obligations.CpuControl := by
  intro s
  simp only [interruptPending_iff, pcAfter_eq]
  exact ⟨runs_of_ending (f := .nop) rfl nofun rfl rfl rfl,
    fun h => runs_halt (halt_of_not_bug h) rfl,
    fun hi hp hm => runs_halt ((halt_of_bug ⟨hi, hp⟩).trans (haltBug_skip2 hm)) rfl,
    fun hi hp hm => runs_halt ((halt_of_bug ⟨hi, hp⟩).trans (haltBug_replay hm)) rfl,
    fun hi hp hm => runs_halt ((halt_of_bug ⟨hi, hp⟩).trans (haltBug_ignore hm)) rfl,
    runs_of_ending (f := .disableInterrupts) rfl nofun rfl rfl rfl,
    fun hd => runs_ei (enableInterrupts_at_once hd) rfl,
    fun hd => runs_ei (enableInterrupts_delayed hd) rfl⟩

end Sys2Proof.Machine
end

section
/-! The halted step, the interrupt entry, the delayed EI, and the devices inside an instruction (R402-R406,
R410-R413). -/

namespace Sys2Proof.Machine

open Sys2Proof.Claims

/-! ## The halted step (R402) -/

theorem pending_overlayCheck (s : State) : (overlayCheck s).pending = s.pending := by
  unfold overlayCheck
  split <;> rfl

theorem haltedStep_of_pending {s : State} (h : s.pending = true) :
    haltedStep s = { s with cpu := { s.cpu with runState := .running }, cycles := 4 } := by
  rw [haltedStep, if_pos h]
  rfl

theorem haltedStep_of_not_pending {s : State} (h : ¬s.pending = true) :
    haltedStep s = { s with cycles := 4 } := by rw [haltedStep, if_neg h]

/-- Settles O7: the halted step is the whole CPU step, and a pending interrupt decides its end. -/
theorem haltedStepWaits : Obligations.HaltedStepWaits := by
  intro s hf hr
  rw [interruptPending_iff, overlaySeen_eq, ← pending_overlayCheck, ← overlayCheck_cpu s]
  have hstep := step_of_cpuStep_next hf (cpuStep_halted hr)
  exact ⟨fun hp => by rw [hstep, haltedStep_of_pending hp], fun hp => by rw [hstep, haltedStep_of_not_pending hp]⟩

/-! ## The interrupt entry (R403, R411-R413) -/

theorem getLsbD_pendingBits (s : State) {i : Nat} (hi : i < 5) :
    s.pendingBits.getLsbD i = (s.irq.req.getLsbD i && s.irq.en.getLsbD i) := by
  have hmask : (0x1F : Byte).getLsbD i = true := by
    revert i
    decide
  rw [State.pendingBits, BitVec.getLsbD_and, BitVec.getLsbD_and, hmask, Bool.and_true]

/-- The lowest set bit of a set with no bit above 4 (R411). -/
theorem lowestBit_eq {v : Byte} {i : Nat} (hi : i < 5) (hset : v.getLsbD i = true)
    (hlow : ∀ j < i, v.getLsbD j = false) : lowestBit v = i := by
  unfold lowestBit
  match i with
  | 0 | 1 | 2 | 3 | 4 => simp (disch := omega) only [hlow, hset, Bool.false_eq_true, if_true, if_false]

/-- A source that is requested and enabled makes an interrupt pending (R410). -/
theorem pending_of_getLsbD {s : State} {i : Nat} (h : s.pendingBits.getLsbD i = true) : s.pending = true := by
  refine decide_eq_true fun hzero => ?_
  rw [hzero] at h
  exact absurd h (by simp)

theorem overlayCheck_irq (s : State) : (overlayCheck s).irq = s.irq := by rw [overlayCheck_eq]

/-- A push does not see IME. -/
theorem push16_setIME (v : Word) (b : Bool) (s : State) : push16 v (s.setIME b) = (push16 v s).setIME b := by
  simp only [push16_eq, State.setIME, busWrite_setCpu]

/-- The entry for its source: the push comes after the request is cleared, and IME and the PC after the push
(R412). -/
theorem serviceStep_source {s : State} {i : Nat} (h : lowestBit s.pendingBits = i) :
    serviceStep s =
      { push16 s.cpu.pc (s.clearIF i) with
        cpu := { (push16 s.cpu.pc (s.clearIF i)).cpu with ime := false, pc := vector i }, cycles := 20 } := by
  rw [serviceStep_eq, h, push16_setIME]
  generalize push16 s.cpu.pc (s.clearIF i) = u
  rfl

/-- Settles O8: the source served is the lowest pending bit. -/
theorem interruptEntry : Obligations.InterruptEntry := by
  intro s i hf hr hime hi hreq hen hlow
  have hpending : ∀ j < 5, s.pendingBits.getLsbD j = (s.irq.req.getLsbD j && s.irq.en.getLsbD j) :=
    fun j hj => getLsbD_pendingBits s hj
  have hset : s.pendingBits.getLsbD i = true := by rw [hpending i hi, hreq, hen]; rfl
  have hsource : lowestBit (overlayCheck s).pendingBits = i := by
    rw [State.pendingBits, overlayCheck_irq, ← State.pendingBits]
    refine lowestBit_eq hi hset fun j hj => ?_
    rw [hpending j (by omega), ← Bool.not_eq_true, Bool.and_eq_true]
    exact hlow j hj
  have hint : s.takesInterrupt = true := by rw [State.takesInterrupt, hime, pending_of_getLsbD hset]; rfl
  have hstep := step_of_cpuStep_next hf (cpuStep_service hr hint)
  have hclear : (overlayCheck s).clearIF i =
      { overlaySeen s with irq := { s.irq with req := s.irq.req &&& ~~~((1 : Byte) <<< i) } } := by
    rw [overlaySeen_eq, State.clearIF, overlayCheck_irq]
  rw [hstep, serviceStep_source hsource, overlayCheck_cpu, hclear, ← pushed_eq]
  rfl

/-! ## The delayed EI (R406) -/

/-- An instruction step that goes on is its instruction and the commit (R404). -/
theorem instrStep_cases {s t : State} (h : instrStep s = .next t) :
    ∃ u, exec (fetchInstr s) s = .next u ∧ t = commitEI s.cpu.eiPending u := by
  unfold instrStep at h
  cases hx : exec (fetchInstr s) s <;> rw [hx] at h <;> cases h
  exact ⟨_, rfl, rfl⟩

/-- Settles O18: DI alone leaves nothing to commit. -/
theorem delayedEiCommits : Obligations.DelayedEiCommits := by
  intro s t hei h
  obtain ⟨u, hx, rfl⟩ := instrStep_cases h
  obtain ⟨_, _, _, heff⟩ := exec_effect hx
  rw [hei, commitEI]
  by_cases hdi : fetchInstr s = .di
  · obtain ⟨hime, hoff⟩ := heff.notDi (by rw [hdi]; rfl)
    simp [hoff, hime, hdi]
  · have hform : formOf (fetchInstr s) ≠ .disableInterrupts := fun hf => hdi (eq_of_formOf_eq (.inl rfl) hf)
    have hon : u.cpu.eiPending = true := by
      rcases heff.eiPending with hsame | ⟨hf, _⟩ | ⟨_, _, hon⟩
      · rw [hsame, hei]
      · exact absurd hf hform
      · exact hon
    rw [hon, Bool.and_self, if_pos rfl]
    exact ⟨rfl, iff_of_true rfl hdi⟩

/-! ## The devices inside an instruction (R405) -/

/-- `t` has the devices' inner state as `s` has it: what no register shows, and the line and the mode. -/
structure DevicesStill (s t : State) : Prop where
  mode : t.ppu.mode = s.ppu.mode
  acc : t.ppu.acc = s.ppu.acc
  ly : t.ppu.ly = s.ppu.ly
  lycEqual : t.ppu.lycEqual = s.ppu.lycEqual
  spritesNormal : t.ppu.spritesNormal = s.ppu.spritesNormal
  spritesBehind : t.ppu.spritesBehind = s.ppu.spritesBehind
  framebuffer : t.ppu.framebuffer = s.ppu.framebuffer
  displayWasOff : t.ppu.displayWasOff = s.ppu.displayWasOff
  divAcc : t.timer.divAcc = s.timer.divAcc
  timaAcc : t.timer.timaAcc = s.timer.timaAcc

theorem DevicesStill.refl (s : State) : DevicesStill s s := ⟨rfl, rfl, rfl, rfl, rfl, rfl, rfl, rfl, rfl, rfl⟩

/-- A bus write after which the devices stood still leaves them so. -/
theorem DevicesStill.busWrite {s t : State} (h : DevicesStill s t) (a : Word) (v : Byte) :
    DevicesStill s (busWrite a v t) := by
  obtain ⟨_, _, _, _, _, _, hdiv, htima, hmode, hacc, hly, hlyc, hnormal, hbehind, hframe, hoff⟩ :=
    busWrite_frame a v t
  exact ⟨hmode.trans h.mode, hacc.trans h.acc, hly.trans h.ly, hlyc.trans h.lycEqual,
    hnormal.trans h.spritesNormal, hbehind.trans h.spritesBehind, hframe.trans h.framebuffer,
    hoff.trans h.displayWasOff, hdiv.trans h.divAcc, htima.trans h.timaAcc⟩

theorem Writes.devicesStill {s t : State} (h : Writes s t) : DevicesStill s t :=
  h.induct (fun a v _ hu => hu.busWrite a v) (.refl s)

/-- Settles O16: an instruction is bus writes and a new CPU and cost, and a bus write moves no device. -/
theorem instructionsLeaveDevicesAlone : Obligations.InstructionsLeaveDevicesAlone := by
  intro i s t h
  have hsession := exec_keepsSession h
  have hover := exec_overlayActive h
  obtain ⟨u, hw, ht, _⟩ := exec_effect h
  have hstill : DevicesStill s t := by
    rw [ht]
    obtain ⟨h1, h2, h3, h4, h5, h6, h7, h8, h9, h10⟩ := hw.devicesStill
    exact ⟨h1, h2, h3, h4, h5, h6, h7, h8, h9, h10⟩
  exact ⟨hstill.mode, hstill.acc, hstill.ly, hstill.lycEqual, hstill.spritesNormal, hstill.spritesBehind,
    hstill.framebuffer, hstill.displayWasOff, hstill.divAcc, hstill.timaAcc, hsession.buttons, hover,
    hsession.fault, hsession.params⟩

end Sys2Proof.Machine
end

section
/-! The timers as the loops of the rules (R430-R432), and OAM DMA as one copy at the end of its countdown
(R436). -/

namespace Sys2Proof.Machine

open Sys2Proof.Claims

/-! ## The divider (R430) -/

/-- The state with the divider moved on by `n`, its accumulator given. -/
def State.divided (s : State) (n r : Nat) : State :=
  { s with timer := { s.timer with div := s.timer.div + BitVec.ofNat 8 n, divAcc := r } }

/-- `n` whole periods in the accumulator are `n` rounds. -/
theorem dividerLoop_divided (n : Nat) {r : Nat} (hr : r < 256) (s : State)
    (h : s.timer.divAcc = 256 * n + r) : DividerLoop s (s.divided n r) := by
  induction n generalizing s with
  | zero =>
    have hs : s.divided 0 r = s := by
      rw [State.divided, ← show s.timer.divAcc = r by omega]
      simp
    rw [hs]
    exact .stop s (by omega)
  | succ n ih =>
    refine .round s _ (by omega) ?_
    have hdiv (x : Byte) : x + BitVec.ofNat 8 (n + 1) = x + 1 + BitVec.ofNat 8 n := by
      rw [Nat.add_comm, BitVec.ofNat_add, ← BitVec.add_assoc]
      rfl
    have hs (t : State) : t.divided (n + 1) r =
        { t with timer := { t.timer with div := t.timer.div + 1, divAcc := t.timer.divAcc - 256 } }.divided n r := by
      rw [State.divided, hdiv]
      rfl
    rw [hs]
    exact ih _ (by dsimp only; omega)

/-! ## TIMA (R431) -/

theorem period_eq (s : State) : period s = timerPeriod s.timer.tac := by
  unfold period timerPeriod
  have h := Nat.mod_lt s.timer.tac.toNat (show 0 < 4 by decide)
  generalize s.timer.tac.toNat % 4 = x at h
  match x with
  | 0 | 1 | 2 | 3 => rfl

/-- The state with TIMA's accumulator given. -/
def State.setTimaAcc (s : State) (n : Nat) : State := { s with timer := { s.timer with timaAcc := n } }

theorem countOnce_eq (s : State) : countOnce s = timaTick s := by
  unfold countOnce timaTick
  have hfull : s.timer.tima = 0xFF ↔ s.timer.tima.toNat = 255 := BitVec.toNat_inj.symm
  simp only [hfull]
  rfl

/-- An increment of TIMA does not see the accumulator. -/
theorem timaTick_setTimaAcc (s : State) (n : Nat) : timaTick (s.setTimaAcc n) = (timaTick s).setTimaAcc n := by
  unfold timaTick State.setTimaAcc
  split <;> rfl

theorem timaTick_period (s : State) : period (timaTick s) = period s := by
  obtain ⟨_, _, _, h⟩ := timaTick_eq s
  rw [h]
  rfl

theorem timaTick_timaAcc (s : State) : (timaTick s).timer.timaAcc = s.timer.timaAcc := by
  obtain ⟨_, _, _, h⟩ := timaTick_eq s
  rw [h]

/-- `n` whole periods in the accumulator are `n` rounds. -/
theorem timaLoop_ticks (n : Nat) {r : Nat} (s : State) (hr : r < period s)
    (h : s.timer.timaAcc = period s * n + r) : TimaLoop s (timaTicks n (s.setTimaAcc r)) := by
  induction n generalizing s with
  | zero =>
    have hs : s.setTimaAcc r = s := by
      rw [State.setTimaAcc, ← show s.timer.timaAcc = r by omega]
    rw [hs]
    exact .stop s (by omega)
  | succ n ih =>
    have hacc : s.timer.timaAcc = period s * n + r + period s := by rw [h, Nat.mul_succ]; omega
    refine .round s _ (by omega) ?_
    rw [timaTicks, timaTick_setTimaAcc, countOnce_eq]
    show TimaLoop (timaTick (s.setTimaAcc _)) _
    have hlast : (timaTick s).setTimaAcc r =
        (timaTick (s.setTimaAcc (s.timer.timaAcc - period s))).setTimaAcc r := by
      rw [timaTick_setTimaAcc]
      rfl
    have hperiod : period (timaTick (s.setTimaAcc (s.timer.timaAcc - period s))) = period s :=
      timaTick_period _
    rw [hlast]
    refine ih _ (by rwa [hperiod]) ?_
    rw [hperiod, timaTick_timaAcc]
    show s.timer.timaAcc - period s = _
    omega

theorem timaStep_running {c : Nat} {s : State} (h : s.timer.tac.getLsbD 2 = true) :
    timaStep c s = timaTicks ((s.timer.timaAcc + c) / period s)
      (s.setTimaAcc ((s.timer.timaAcc + c) % period s)) := by
  rw [timaStep, Timer.running, if_pos h, period_eq]
  rfl

theorem timaStep_held {c : Nat} {s : State} (h : s.timer.tac.getLsbD 2 = false) : timaStep c s = s := by
  rw [timaStep, Timer.running, if_neg (by rw [h]; decide)]

/-- Settles O48: the quotient of each accumulator is the number of rounds. -/
theorem timersRunTheSpecsLoops : Obligations.TimersRunTheSpecsLoops := by
  intro c s
  refine ⟨?_, fun hon => ?_, timaStep_held, rfl⟩
  · exact dividerLoop_divided _ (Nat.mod_lt _ (by decide)) { s with timer := { s.timer with
      divAcc := s.timer.divAcc + c } } (Nat.div_add_mod _ _).symm
  · have hpos : 0 < period s := by
      rw [period_eq]
      have := timerPeriod_pos s.timer.tac
      omega
    rw [timaStep_running hon]
    exact timaLoop_ticks _ (s.setTimaAcc (s.timer.timaAcc + c)) (Nat.mod_lt _ hpos) (Nat.div_add_mod _ _).symm

/-! ## OAM DMA (R436) -/

/-- The countdown shows in no bus read: 0xFF46 reads the register. -/
theorem busRead_setRemaining (a : Word) (s : State) (n : Nat) :
    busRead a { s with dma := { s.dma with remaining := n } } = busRead a s := by
  unfold busRead State.overlayHit ioRead
  cases ownerOf a <;> rfl

theorem dmaStep_running {c : Nat} {s : State} (ha : s.dma.active = true) (hc : c < s.dma.remaining) :
    dmaStep c s = { s with dma := { s.dma with remaining := s.dma.remaining - c } } := by
  rw [dmaStep, if_pos ha]
  exact if_neg (by dsimp only; omega)

/-- At its end the transfer copies from the state whose countdown has run out. -/
theorem dmaStep_ends {c : Nat} {s : State} (ha : s.dma.active = true) (hc : s.dma.remaining ≤ c) :
    dmaStep c s = { s with
      dma := { s.dma with active := false, remaining := 0 }
      mem := (dmaCopy s.dma.page 0 160 { s with dma := { s.dma with remaining := 0 } }).mem } := by
  have hzero : s.dma.remaining - c = 0 := by omega
  have hcopy := dmaCopy_eq s.dma.page 0 160 { s with dma := { s.dma with remaining := 0 } }
  rw [dmaStep, if_pos ha]
  simp only [hzero, if_true]
  rw [hcopy]

/-- Settles O49: the copy reads each source byte as the bus showed it before, and leaves every other key. -/
theorem dmaCopiesAtTheEndOfTheCountdown : Obligations.DmaCopiesAtTheEndOfTheCountdown := by
  intro c s
  refine ⟨fun ha => ?_, fun ha hc => dmaStep_running ha hc, fun ha hc => ⟨_, dmaStep_ends ha hc, ?_, ?_⟩⟩
  · rw [dmaStep, if_neg (by rw [ha]; decide)]
  · intro i hi
    have hcopied := dmaCopy_same s.dma.page 0 160 { s with dma := { s.dma with remaining := 0 } } le_rfl
      (Nat.zero_le i) (by omega)
    rw [busRead_setRemaining, dmaSource, ← word_eq] at hcopied
    exact hcopied
  · intro k hk
    have hkept := dmaCopy_other s.dma.page 0 160 { s with dma := { s.dma with remaining := 0 } } (k := k)
      (by unfold oamKey; omega)
    exact hkept

end Sys2Proof.Machine
end

section
/-! The PPU's mode sequencer (R440-R449): each transition as one equation, the loop of R440, and with the loop
the position in the frame and the VBlank request. -/

namespace Sys2Proof.Machine

open Sys2Proof.Claims

/-! ## The requests a transition raises (R449) -/

/-- IF with the bits of a byte set. -/
def State.request (s : State) (v : Byte) : State := { s with irq := { s.irq with req := s.irq.req ||| v } }

/-- The STAT request that enable bit `k` of STAT lets through (R449). -/
def Ppu.statBit (p : Ppu) (k : Nat) : Byte := if p.statEnables.getLsbD k then 0x02 else 0x00

/-- The STAT request that a line equal to LYC raises (R447). -/
def Ppu.compareBit (p : Ppu) (n : Byte) : Byte := if n = p.lyc then p.statBit 6 else 0x00

theorem request_zero (s : State) : s.request 0 = s := by rw [State.request, orZero]

theorem request_request (s : State) (v w : Byte) : (s.request v).request w = s.request (v ||| w) := by
  simp only [State.request, BitVec.or_assoc]

theorem raiseIF_zero (s : State) : s.raiseIF 0 = s.request 0x01 := rfl

theorem statRequest_eq (s : State) (k : Nat) : s.statRequest k = s.request (s.ppu.statBit k) := by
  unfold State.statRequest Ppu.statBit
  split
  · rfl
  · exact (request_zero s).symm

/-- The line with its compare flag (R447). -/
def State.atLine (s : State) (n : Byte) : State :=
  { s with ppu := { s.ppu with ly := n, lycEqual := decide (n = s.ppu.lyc) } }

theorem setLY_eq (n : Byte) (s : State) : setLY n s = (s.atLine n).request (s.ppu.compareBit n) := by
  have hset : setLY n s =
      if decide (n = s.ppu.lyc) then (s.atLine n).statRequest 6 else s.atLine n := rfl
  rw [hset, Ppu.compareBit]
  by_cases hn : n = s.ppu.lyc
  · rw [if_pos (decide_eq_true hn), if_pos hn, statRequest_eq]
    rfl
  · rw [if_neg (by rwa [decide_eq_true_eq]), if_neg hn, request_zero]

theorem enterOamSearch_eq (s : State) :
    enterOamSearch s = (gatherSprites (s.setMode .oamSearch)).request (s.ppu.statBit 5) := by
  rw [enterOamSearch, statRequest_eq]
  rfl

/-! ## The transitions (R443-R446) -/

theorem transition_oamSearch {s : State} (h : s.ppu.mode = .oamSearch) :
    transition s = s.setMode .pixelTransfer := by simp only [transition, h]

theorem transition_pixelTransfer {s : State} (h : s.ppu.mode = .pixelTransfer) :
    transition s = ((renderLine s.ppu.ly.toNat s).setMode .hBlank).request (s.ppu.statBit 3) := by
  simp only [transition, h, statRequest_eq]
  rfl

theorem transition_hBlank_last {s : State} (h : s.ppu.mode = .hBlank) (hl : s.ppu.ly + 1 = 144) :
    transition s =
      ((s.atLine 144).setMode .vBlank).request (s.ppu.compareBit 144 ||| 0x01 ||| s.ppu.statBit 4) := by
  have hly : (setLY 144 s).ppu.ly = 144 := (setLY_fields 144 s).1
  simp only [transition, h, hl, hly, if_true]
  rw [statRequest_eq, raiseIF_zero, setLY_eq, ← request_request, ← request_request]
  rfl

theorem enterOamSearch_setLY (n : Byte) (s : State) :
    enterOamSearch (setLY n s) =
      (gatherSprites ((s.atLine n).setMode .oamSearch)).request (s.ppu.compareBit n ||| s.ppu.statBit 5) := by
  rw [enterOamSearch_eq, setLY_eq, ← request_request]
  rfl

theorem transition_hBlank {s : State} (h : s.ppu.mode = .hBlank) (hl : s.ppu.ly + 1 ≠ 144) :
    transition s = enterOamSearch (setLY (s.ppu.ly + 1) s) := by
  have hly : (setLY (s.ppu.ly + 1) s).ppu.ly = s.ppu.ly + 1 := (setLY_fields _ s).1
  simp only [transition, h, hly, hl, if_false]

theorem transition_vBlank {s : State} (h : s.ppu.mode = .vBlank) (hl : s.ppu.ly.toNat < 153) :
    transition s = setLY (s.ppu.ly + 1) s := by simp only [transition, h, hl, if_true]

theorem transition_vBlank_last {s : State} (h : s.ppu.mode = .vBlank) (hl : 153 ≤ s.ppu.ly.toNat) :
    transition s = enterOamSearch (setLY 0 s) := by
  simp only [transition, h, Nat.not_lt.2 hl, if_false]

/-- Settles O50: each transition sets the mode and the line, and its requests are one union. -/
theorem ppuModeTransitions : Obligations.PpuModeTransitions := by
  intro s
  exact ⟨fun h => transition_oamSearch h, fun h => transition_pixelTransfer h,
    fun h hl => transition_hBlank_last h hl,
    fun h hl => (transition_hBlank h hl).trans (enterOamSearch_setLY _ s),
    fun h hl => (transition_vBlank h hl).trans (setLY_eq _ s),
    fun h hl => (transition_vBlank_last h hl).trans (enterOamSearch_setLY 0 s)⟩

/-! ## The loop (R440, R441) -/

theorem modeBudget_eq (m : PpuMode) : modeBudget m = budget m := by cases m <;> rfl

/-- The state whose mode's budget is taken off the accumulator. -/
def State.spendBudget (s : State) : State :=
  { s with ppu := { s.ppu with acc := s.ppu.acc - modeBudget s.ppu.mode } }

/-- With the accumulator as fuel the model's loop ends where the rule's loop does. -/
theorem ppuLoop_runs (fuel : Nat) (s : State) (h : s.ppu.acc ≤ fuel) : PpuLoop s (ppuLoop fuel s) := by
  induction fuel generalizing s with
  | zero =>
    have hb := budget_pos s.ppu.mode
    exact .stop s (by rw [modeBudget_eq]; omega)
  | succ fuel ih =>
    have hb := budget_pos s.ppu.mode
    rw [ppuLoop]
    split
    case isTrue hlt => exact .stop s (by rwa [modeBudget_eq])
    case isFalse hle =>
      refine .round s _ (by rw [modeBudget_eq]; omega) ?_
      rw [modeBudget_eq]
      refine ih _ ?_
      rw [transition_acc]
      dsimp only
      omega

/-- The state a PPU step with the display on starts its loop from: after a display off the sprite lists are
gathered anew, and then the cycles go to the accumulator (R440, R441). -/
def ppuLoopStart (c : Nat) (s : State) : State :=
  let u := if s.ppu.displayWasOff then
      gatherSprites { s with ppu := { s.ppu with displayWasOff := false } }
    else s
  { u with ppu := { u.ppu with acc := u.ppu.acc + c } }

/-- With the display on, a PPU step is the loop of R440. -/
theorem ppuStep_runs (c : Nat) {s : State} (h : s.ppu.lcdc.getLsbD 7 = true) :
    PpuLoop (ppuLoopStart c s) (ppuStep c s) := by
  rw [ppuStep, if_neg (by rw [h]; decide)]
  exact ppuLoop_runs _ _ le_rfl

/-- Settles O51: the display decides between DisplayOff and the loop. -/
theorem ppuStepRunsTheSpecsLoop : Obligations.PpuStepRunsTheSpecsLoop := by
  intro c s
  refine ⟨fun h => ?_, fun h => ppuStep_runs c h⟩
  rw [ppuStep, if_pos h]
  rfl

/-! ## The position in the frame (R442) -/

/-- The cycles from the start of a line to the start of a mode in it (R442). -/
def modeOffset : PpuMode → Nat
  | .oamSearch => 0
  | .pixelTransfer => 80
  | .hBlank => 252
  | .vBlank => 0

/-- Where in the frame the current mode of the current line began. -/
def modeStart (s : State) : Nat := 456 * s.ppu.ly.toNat + modeOffset s.ppu.mode

theorem framePosition_eq (s : State) : framePosition s = modeStart s + s.ppu.acc := by
  unfold framePosition modeStart modeOffset
  cases s.ppu.mode <;> dsimp only <;> omega

theorem toNat_nextLine {s : State} (h : s.ppu.ly.toNat ≤ 153) : (s.ppu.ly + 1).toNat = s.ppu.ly.toNat + 1 := by
  show (s.ppu.ly.toNat + 1) % 256 = s.ppu.ly.toNat + 1
  omega

/-- A transition is at the end of its mode's budget, the end of line 153 at the start of the frame. -/
theorem modeStart_transition {s : State} (h : scanlineInRange s) :
    modeStart (transition s) = (modeStart s + modeBudget s.ppu.mode) % 70224 := by
  obtain ⟨_, hoam, hpixel, hhBlank, hvBlank⟩ := transition_fields s
  obtain ⟨hle, hiff⟩ := h
  have hnext := toNat_nextLine hle
  unfold modeStart
  cases hm : s.ppu.mode <;> simp only [hm, reduceCtorEq, false_iff, true_iff, not_le] at hiff
  case oamSearch =>
    obtain ⟨hmode, hly⟩ := hoam hm
    rw [hmode, hly, modeOffset, modeOffset, modeBudget]
    omega
  case pixelTransfer =>
    obtain ⟨hmode, hly⟩ := hpixel hm
    rw [hmode, hly, modeOffset, modeOffset, modeBudget]
    omega
  case hBlank =>
    obtain ⟨hly, hmode⟩ := hhBlank hm
    have hzero : modeOffset (transition s).ppu.mode = 0 := by rw [hmode]; split <;> rfl
    rw [hly, hnext, hzero, modeOffset, modeBudget]
    omega
  case vBlank =>
    by_cases hl : s.ppu.ly.toNat < 153
    · obtain ⟨hmode, hly⟩ := (hvBlank hm).1 hl
      rw [hmode, hly, hnext, modeOffset, modeBudget]
      omega
    · obtain ⟨hmode, hly⟩ := (hvBlank hm).2 (by omega)
      have hlast : s.ppu.ly.toNat = 153 := by omega
      rw [hmode, hly, hlast]
      rfl

/-- The end of the H-blank of line 143, the one transition that enters V-blank (R445). -/
def State.entersVBlank (s : State) : Prop := s.ppu.mode = .hBlank ∧ s.ppu.ly.toNat = 143

/-- A mode lies inside the frame, on one side of the start of line 144, and the last H-blank ends there. -/
theorem modeStart_range {s : State} (h : scanlineInRange s) :
    modeStart s + modeBudget s.ppu.mode ≤ 70224 ∧
      (modeStart s + modeBudget s.ppu.mode ≤ 65664 ∨ 65664 ≤ modeStart s) ∧
      (modeStart s + modeBudget s.ppu.mode = 65664 ↔ s.entersVBlank) := by
  obtain ⟨hle, hiff⟩ := h
  unfold modeStart State.entersVBlank
  cases hm : s.ppu.mode <;>
    simp only [hm, modeOffset, modeBudget, reduceCtorEq, false_iff, true_iff, iff_false, not_le, false_and,
      true_and]
      at hiff ⊢ <;>
    omega

/-- A mode that is not over ends inside the frame. -/
theorem framePosition_lt {s : State} (hacc : s.ppu.acc < modeBudget s.ppu.mode) (h : scanlineInRange s) :
    framePosition s < 70224 := by
  obtain ⟨hframe, _⟩ := modeStart_range h
  rw [framePosition_eq]
  omega

/-- The loop stays at its position in the frame: each round moves it from the accumulator to the mode and line. -/
theorem framePosition_of_ppuLoop {s t : State} (h : PpuLoop s t) (hs : scanlineInRange s) :
    framePosition t = framePosition s % 70224 := by
  induction h with
  | stop s hacc => exact (Nat.mod_eq_of_lt (framePosition_lt hacc hs)).symm
  | round s t hacc _ ih =>
    have hline : scanlineInRange s.spendBudget := hs
    calc framePosition t
        = (modeStart (transition s.spendBudget) + (transition s.spendBudget).ppu.acc) % 70224 := by
          rw [ih (transition_scanline hline), framePosition_eq]
          rfl
      _ = ((modeStart s + modeBudget s.ppu.mode) % 70224 + (s.ppu.acc - modeBudget s.ppu.mode)) % 70224 := by
          rw [modeStart_transition hline, transition_acc]
          rfl
      _ = framePosition s % 70224 := by
          rw [framePosition_eq]
          omega

theorem ppuLoopStart_fields (c : Nat) (s : State) :
    (ppuLoopStart c s).ppu.mode = s.ppu.mode ∧ (ppuLoopStart c s).ppu.ly = s.ppu.ly ∧
      (ppuLoopStart c s).ppu.acc = s.ppu.acc + c ∧ (ppuLoopStart c s).irq = s.irq := by
  unfold ppuLoopStart
  split <;> exact ⟨rfl, rfl, rfl, rfl⟩

theorem ppuLoopStart_scanline (c : Nat) {s : State} (h : scanlineInRange s) :
    scanlineInRange (ppuLoopStart c s) := by
  obtain ⟨hmode, hly, _, _⟩ := ppuLoopStart_fields c s
  rwa [scanlineInRange, hmode, hly]

theorem modeStart_ppuLoopStart (c : Nat) (s : State) : modeStart (ppuLoopStart c s) = modeStart s := by
  obtain ⟨hmode, hly, _, _⟩ := ppuLoopStart_fields c s
  rw [modeStart, modeStart, hmode, hly]

/-- Settles O52: the cycles go to the accumulator, and the loop keeps the position. -/
theorem framePositionAdvancesWithTheCycles : Obligations.FramePositionAdvancesWithTheCycles := by
  intro c s hon _ hline
  refine ⟨ppuStep_bounded c s, ppuStep_scanline c hline, ?_⟩
  obtain ⟨_, _, hacc, _⟩ := ppuLoopStart_fields c s
  have hstart : framePosition (ppuLoopStart c s) = framePosition s + c := by
    rw [framePosition_eq, framePosition_eq, modeStart_ppuLoopStart, hacc, Nat.add_assoc]
  rw [framePosition_of_ppuLoop (ppuStep_runs c hon) (ppuLoopStart_scanline c hline), hstart]

/-! ## The VBlank request (R445) -/

/-- From position `x` the next `c` cycles pass the start of line 144. -/
def Passes (x c : Nat) : Prop := ∃ m, 0 < m ∧ m ≤ c ∧ (x + m) % 70224 = 65664

theorem passes_add (x b c : Nat) : Passes x (b + c) ↔ Passes x b ∨ Passes (x + b) c := by
  constructor
  · rintro ⟨m, hpos, hle, hm⟩
    by_cases hb : m ≤ b
    · exact .inl ⟨m, hpos, hb, hm⟩
    · exact .inr ⟨m - b, by omega, by omega, by rw [← hm]; congr 1; omega⟩
  · rintro (⟨m, hpos, hle, hm⟩ | ⟨m, hpos, hle, hm⟩)
    · exact ⟨m, hpos, by omega, hm⟩
    · exact ⟨b + m, by omega, by omega, by rw [← hm]; congr 1; omega⟩

theorem passes_mod (x c : Nat) : Passes (x % 70224) c ↔ Passes x c := by
  simp only [Passes, Nat.mod_add_mod]

/-- Inside a mode the start of line 144 is not passed. -/
theorem not_passes_inside {s : State} (h : scanlineInRange s) {a : Nat} (ha : a < modeBudget s.ppu.mode) :
    ¬Passes (modeStart s) a := by
  obtain ⟨hframe, hside, _⟩ := modeStart_range h
  rintro ⟨m, hpos, hle, hm⟩
  omega

/-- A whole mode passes the start of line 144 at its end if at all. -/
theorem passes_mode_iff {s : State} (h : scanlineInRange s) :
    Passes (modeStart s) (modeBudget s.ppu.mode) ↔ s.entersVBlank := by
  obtain ⟨hframe, hside, hend⟩ := modeStart_range h
  have hbudget := budget_pos s.ppu.mode
  rw [← modeBudget_eq] at hbudget
  rw [← hend]
  constructor
  · rintro ⟨m, hpos, hle, hm⟩
    omega
  · exact fun he => ⟨modeBudget s.ppu.mode, by omega, le_rfl, by rw [he]⟩

theorem getLsbD_request (s : State) (v : Byte) (i : Nat) :
    (s.request v).irq.req.getLsbD i = (s.irq.req.getLsbD i || v.getLsbD i) := BitVec.getLsbD_or

theorem statBit_getLsbD_zero (p : Ppu) (k : Nat) : (p.statBit k).getLsbD 0 = false := by
  unfold Ppu.statBit
  split <;> rfl

theorem compareBit_getLsbD_zero (p : Ppu) (n : Byte) : (p.compareBit n).getLsbD 0 = false := by
  unfold Ppu.compareBit
  split
  · exact statBit_getLsbD_zero p 6
  · rfl

theorem setLY_vblank (n : Byte) (s : State) :
    (setLY n s).irq.req.getLsbD 0 = s.irq.req.getLsbD 0 := by
  rw [setLY_eq, getLsbD_request, compareBit_getLsbD_zero, Bool.or_false]
  rfl

theorem enterOamSearch_vblank (s : State) :
    (enterOamSearch s).irq.req.getLsbD 0 = s.irq.req.getLsbD 0 := by
  rw [enterOamSearch_eq, getLsbD_request, statBit_getLsbD_zero, Bool.or_false]
  rfl

/-- The entry to V-blank raises the VBlank request, and no other transition touches it (R445). -/
theorem transition_vblank {s : State} (h : scanlineInRange s) :
    (transition s).irq.req.getLsbD 0 = true ↔ s.irq.req.getLsbD 0 = true ∨ s.entersVBlank := by
  have hnext := toNat_nextLine h.1
  have hlast : s.ppu.ly + 1 = 144 ↔ s.ppu.ly.toNat = 143 := by
    rw [← BitVec.toNat_inj, hnext]
    exact Nat.succ_inj
  unfold State.entersVBlank
  cases hm : s.ppu.mode <;> simp only [reduceCtorEq, false_and, or_false, true_and]
  case oamSearch => rw [transition_oamSearch hm]; rfl
  case pixelTransfer =>
    rw [transition_pixelTransfer hm, getLsbD_request, statBit_getLsbD_zero, Bool.or_false]
    rfl
  case hBlank =>
    rw [← hlast]
    by_cases hl : s.ppu.ly + 1 = 144
    · have hbit : (s.ppu.compareBit 144 ||| 0x01 ||| s.ppu.statBit 4).getLsbD 0 = true := by
        rw [BitVec.getLsbD_or, BitVec.getLsbD_or, compareBit_getLsbD_zero, statBit_getLsbD_zero]
        rfl
      rw [transition_hBlank_last hm hl, getLsbD_request, hbit, Bool.or_true]
      exact iff_of_true rfl (.inr hl)
    · rw [transition_hBlank hm hl, enterOamSearch_vblank, setLY_vblank, or_iff_left hl]
  case vBlank =>
    by_cases hl : s.ppu.ly.toNat < 153
    · rw [transition_vBlank hm hl, setLY_vblank]
    · rw [transition_vBlank_last hm (by omega), enterOamSearch_vblank, setLY_vblank]

/-- The loop raises the VBlank request exactly when the accumulator takes it past the start of line 144. -/
theorem vblank_of_ppuLoop {s t : State} (h : PpuLoop s t) (hs : scanlineInRange s) :
    t.irq.req.getLsbD 0 = true ↔ s.irq.req.getLsbD 0 = true ∨ Passes (modeStart s) s.ppu.acc := by
  induction h with
  | stop s hacc => rw [or_iff_left (not_passes_inside hs hacc)]
  | round s t hacc _ ih =>
    have hline : scanlineInRange s.spendBudget := hs
    have hsplit : s.ppu.acc = modeBudget s.ppu.mode + (s.ppu.acc - modeBudget s.ppu.mode) := by omega
    calc t.irq.req.getLsbD 0 = true
        ↔ (transition s.spendBudget).irq.req.getLsbD 0 = true ∨
            Passes (modeStart (transition s.spendBudget)) (transition s.spendBudget).ppu.acc :=
          ih (transition_scanline hline)
      _ ↔ (s.irq.req.getLsbD 0 = true ∨ s.entersVBlank) ∨
            Passes (modeStart s + modeBudget s.ppu.mode) (s.ppu.acc - modeBudget s.ppu.mode) := by
          rw [transition_vblank hline, modeStart_transition hline, passes_mod, transition_acc]
          rfl
      _ ↔ s.irq.req.getLsbD 0 = true ∨ Passes (modeStart s) s.ppu.acc := by
          rw [or_assoc, ← passes_mode_iff hs, ← passes_add, ← hsplit]

/-- Settles O53: the loop starts with the cycles of the mode so far, in which nothing is passed, and `c` more. -/
theorem vBlankIsRequestedAtLine144 : Obligations.VBlankIsRequestedAtLine144 := by
  intro c s hon hacc hline
  obtain ⟨_, _, hstart, hirq⟩ := ppuLoopStart_fields c s
  have hinside : ¬Passes (modeStart s) s.ppu.acc :=
    not_passes_inside hline (by rw [modeBudget_eq]; exact hacc)
  rw [vblank_of_ppuLoop (ppuStep_runs c hon) (ppuLoopStart_scanline c hline), hirq, modeStart_ppuLoopStart, hstart,
    passes_add, or_iff_right hinside, ← framePosition_eq]
  rfl

end Sys2Proof.Machine
end

section
/-! The sprite lists (R448) and the rasterizer (R450-R455) in natural numbers, with every byte read through the
bus. -/

namespace Sys2Proof.Machine

open Sys2Proof.Claims

/-! ## Video RAM and OAM through the bus (R82, R86) -/

/-- A bus read of video RAM or OAM is a read of the key of its address. -/
theorem busRead_video (s : State) {a : Nat} (h : (0x8000 ≤ a ∧ a < 0xA000) ∨ (0xFE00 ≤ a ∧ a < 0xFEA0)) :
    busRead (BitVec.ofNat 16 a) s = s.readKey a := by
  have ha : (BitVec.ofNat 16 a).toNat = a := Nat.mod_eq_of_lt (by omega)
  have hplain : IsPlain (BitVec.ofNat 16 a) := isPlain_of_range (by omega)
  rw [busRead_storeKey (storeKey_plain s hplain), ha]

theorem vramByte_eq (s : State) {a : Nat} (h : 0x8000 ≤ a) (h' : a < 0xA000) : vramByte s a = s.readKey a :=
  busRead_video s (.inl ⟨h, h'⟩)

theorem entryAt_eq (s : State) {i : Nat} (h : i < 40) : entryAt s i = s.oamEntry i := by
  rw [entryAt, State.oamEntry, busRead_video s (by omega), busRead_video s (by omega),
    busRead_video s (by omega), busRead_video s (by omega)]

theorem height_eq (s : State) : height s = s.ppu.spriteHeight := rfl

/-! ## The sprite lists (R448) -/

/-- The order of entries by X. -/
abbrev byX : OamEntry → OamEntry → Prop := Order.Preimage (fun e => e.x.toNat) (· ≤ ·)

theorem insertByX_eq (e : OamEntry) (l : List OamEntry) : insertByX e l = l.orderedInsert byX e := by
  induction l with
  | nil => rfl
  | cons f l ih =>
    rw [insertByX, List.orderedInsert, ih]
    rfl

theorem sortByX_eq (l : List OamEntry) : sortByX l = l.insertionSort byX := by
  induction l with
  | nil => rfl
  | cons e l ih => rw [sortByX, List.insertionSort_cons, ih, insertByX_eq]

/-- An entry goes in before those of its own X. -/
theorem filter_insertByX (x : Byte) (e : OamEntry) (l : List OamEntry) :
    (insertByX e l).filter (fun f => f.x = x) = (e :: l).filter (fun f => f.x = x) := by
  induction l with
  | nil => rfl
  | cons f l ih =>
    rw [insertByX]
    split
    case isTrue => rfl
    case isFalse hlt =>
      have hne : ¬(e.x = x ∧ f.x = x) := fun ⟨he, hf⟩ => hlt (by rw [he, hf])
      by_cases he : e.x = x
      · have hf : ¬f.x = x := fun hf => hne ⟨he, hf⟩
        simp only [List.filter_cons, ih, he, hf, decide_true, decide_false, if_true, if_false,
          Bool.false_eq_true]
      · simp only [List.filter_cons, ih, he, decide_false, if_false, Bool.false_eq_true]

/-- The model's insertion sort is a stable sort by X. -/
theorem stablySorted_sortByX (l : List OamEntry) : StablySortedByX l (sortByX l) := by
  refine ⟨?_, fun x => ?_⟩
  · rw [sortByX_eq]
    exact List.pairwise_insertionSort byX l
  · induction l with
    | nil => rfl
    | cons e l ih => rw [sortByX, filter_insertByX, List.filter_cons, List.filter_cons, ih]

/-- Settles O54: the entries the bus shows are the model's, and each part is sorted. -/
theorem spriteListsAreGathered : Obligations.SpriteListsAreGathered := by
  intro s
  have hentries : (List.range 40).map (entryAt s) = (List.range 40).map s.oamEntry :=
    List.map_congr_left fun i hi => entryAt_eq s (List.mem_range.1 hi)
  simp only [hentries, Bool.decide_and]
  exact ⟨_, _, rfl, stablySorted_sortByX _, stablySorted_sortByX _⟩

/-! ## Tiles (R453) -/

/-- A colour index is the tile's high bit and low bit. -/
theorem tilePixel_eq (s : State) {base : Nat} (col : Nat) {row : Nat} (h : 0x8000 ≤ base)
    (h' : base + 2 * row + 1 < 0xA000) : (s.tilePixel base col row).toNat = tileColour s base col row := by
  have hbits (x y : Bool) : (BitVec.ofBool x ++ BitVec.ofBool y).toNat = 2 * x.toNat + y.toNat := by
    cases x <;> cases y <;> rfl
  rw [tileColour, vramByte_eq s (by omega) h', vramByte_eq s (by omega) (by omega)]
  exact hbits _ _

theorem dataAddr_eq (s : State) (t : Byte) : s.ppu.dataAddr t = tileData s t := by
  unfold Ppu.dataAddr tileData
  rw [BitVec.toInt_eq_toNat_cond]
  split
  · rfl
  · split <;> split <;> omega

/-- Every tile lies in video RAM. -/
theorem tileData_range (s : State) (t : Byte) : 0x8000 ≤ tileData s t ∧ tileData s t < 0x9800 := by
  have ht := t.isLt
  unfold tileData
  split
  · omega
  · split <;> omega

/-- A pixel of the plane that a tile map gives (R451, R452). -/
theorem mapPixel_eq (s : State) (high : Bool) {px py : Nat} (hx : px < 256) (hy : py < 256) :
    (s.mapPixel (mapBase high) px py).toNat = planeColour s (if high then 0x9C00 else 0x9800) px py := by
  have hmap : mapBase high = 0x9800 ∨ mapBase high = 0x9C00 := by cases high <;> decide
  rw [State.mapPixel, planeColour, ← mapBase, vramByte_eq s (by omega) (by omega), dataAddr_eq]
  generalize s.readKey (mapBase high + py / 8 * 32 + px / 8) = t
  obtain ⟨hlo, hhi⟩ := tileData_range s t
  exact tilePixel_eq s _ hlo (by omega)

/-! ## Background and window (R451, R452) -/

theorem windowCovers_iff (p : Ppu) (x ly : Nat) :
    p.windowCovers x ly = true ↔ p.lcdc.getLsbD 5 = true ∧ p.wy.toNat ≤ ly ∧ p.wx.toNat ≤ x + 7 := by
  simp only [Ppu.windowCovers, Bool.and_eq_true, decide_eq_true_eq, and_assoc]

theorem bgIndex_eq (s : State) {x ly : Nat} (hx : x < 160) (hly : ly < 144) :
    (s.bgIndex x ly).toNat = backgroundColour s x ly := by
  unfold State.bgIndex backgroundColour
  simp only [windowCovers_iff]
  split
  · rfl
  split
  · exact mapPixel_eq s _ (by omega) (by omega)
  · exact mapPixel_eq s _ (Nat.mod_lt _ (by decide)) (Nat.mod_lt _ (by decide))

/-! ## Sprites (R454) -/

theorem toNat_evenTile (t : Byte) : (t &&& 0xFE).toNat = t.toNat / 2 * 2 := by
  revert t
  decide

theorem spriteHeight_cases (p : Ppu) : p.spriteHeight = 8 ∨ p.spriteHeight = 16 := by
  unfold Ppu.spriteHeight
  split <;> simp

/-- The tile of an entry: of a tall sprite the even one (R454). -/
theorem toNat_spriteTile (h : Nat) (t : Byte) :
    (if h = 16 then t &&& 0xFE else t).toNat = if (h : Int) = 16 then t.toNat / 2 * 2 else t.toNat := by
  by_cases hh : h = 16
  · rw [if_pos hh, if_pos (by omega), toNat_evenTile]
  · rw [if_neg hh, if_neg (by omega)]

/-- A flipped place in a sprite: no subtraction inside it is cut at 0. -/
theorem toNat_flip (flip : Bool) {last place : Nat} {last' place' : Int} (h : place ≤ last)
    (hl : last' = last) (hp : place' = place) :
    (if flip then last' - place' else place').toNat = if flip then last - place else place := by
  subst hl hp
  split <;> omega

/-- Colour index 0 shows nothing, as an index and as a number. -/
theorem map_shownPixel {i : ColourIndex} {n : Nat} (b : Bool) (h : i.toNat = n) :
    (if i = 0 then none else some (i, b)).map (fun p => (p.1.toNat, p.2)) =
      if n = 0 then none else some (n, b) := by
  subst h
  by_cases hi : i = 0
  · rw [if_pos hi, hi]
    rfl
  · have hn : i.toNat ≠ 0 := fun hn => hi (BitVec.eq_of_toNat_eq hn)
    rw [if_neg hi, if_neg hn]
    rfl

/-- The colour index of an entry at a pixel, in natural numbers. -/
theorem spriteIndex_eq (s : State) (e : OamEntry) (x ly : Nat) :
    (s.spriteIndex e x ly).map (fun p => (p.1.toNat, p.2)) = spriteColour s e x ly := by
  have hheight := spriteHeight_cases s.ppu
  unfold State.spriteIndex spriteColour
  rw [height_eq]
  generalize s.ppu.spriteHeight = h at hheight ⊢
  by_cases hin : e.x.toNat ≤ x + 8 ∧ x + 8 < e.x.toNat + 8 ∧ e.y.toNat ≤ ly + 16 ∧ ly + 16 < e.y.toNat + h
  · have hcol := toNat_flip (e.flags.getLsbD 5) (last := 7) (place := x + 8 - e.x.toNat) (last' := 7)
      (place' := (x : Int) - ((e.x.toNat : Int) - 8)) (by omega) rfl (by omega)
    have hrow := toNat_flip (e.flags.getLsbD 6) (last := h - 1) (place := ly + 16 - e.y.toNat)
      (last' := (h : Int) - 1) (place' := (ly : Int) + 16 - e.y.toNat) (by omega) (by omega) (by omega)
    have hrowlt : (if e.flags.getLsbD 6 then h - 1 - (ly + 16 - e.y.toNat) else ly + 16 - e.y.toNat) < 16 := by
      split <;> omega
    have hin' : (e.x.toNat : Int) - 8 ≤ x ∧ (x : Int) < (e.x.toNat : Int) - 8 + 8 ∧
        0 ≤ (ly : Int) + 16 - e.y.toNat ∧ (ly : Int) + 16 - e.y.toNat < h := by omega
    simp only [if_pos hin, if_pos hin', hcol, hrow, ← toNat_spriteTile]
    generalize (if h = 16 then e.tile &&& 0xFE else e.tile) = tile
    have htile := tile.isLt
    exact map_shownPixel _ (tilePixel_eq s _ (by omega) (by omega))
  · rw [if_neg hin, if_neg (by omega)]
    rfl

/-! ## Composition (R455) -/

theorem palette_eq (reg : Byte) (i : ColourIndex) : (palette reg i).toNat = paletteShade reg i.toNat := by
  rw [palette, paletteShade, BitVec.toNat_setWidth, BitVec.toNat_ushiftRight, Nat.shiftRight_eq_div_pow, Nat.pow_mul]

/-- The first entry that shows a pixel gives its shade. -/
theorem spriteShade_eq (s : State) (l : List OamEntry) (x ly : Nat) :
    (s.spriteShade l x ly).map BitVec.toNat = firstSprite s x ly l := by
  induction l with
  | nil => rfl
  | cons e l ih =>
    rw [firstSprite, ← spriteIndex_eq, State.spriteShade, List.findSome?_cons]
    cases s.spriteIndex e x ly with
    | none => exact ih
    | some p =>
      dsimp only [Option.map]
      rw [palette_eq]

theorem composite_eq (s : State) {x ly : Nat} (hx : x < 160) (hly : ly < 144) :
    (s.composite x ly (s.bgIndex x ly)).toNat = pixelShade s x ly := by
  have hbg := bgIndex_eq s hx hly
  have hzero : s.bgIndex x ly = 0 ↔ backgroundColour s x ly = 0 := by rw [← hbg, ← BitVec.toNat_inj]; rfl
  have hback := palette_eq s.ppu.bgp (s.bgIndex x ly)
  rw [hbg] at hback
  unfold State.composite pixelShade
  simp only [← spriteShade_eq, hzero]
  split
  case isFalse => exact hback
  case isTrue =>
    cases s.spriteShade s.ppu.spritesNormal x ly with
    | some shade => rfl
    | none =>
      dsimp only [Option.map]
      split
      case isFalse => exact hback
      case isTrue =>
        cases s.spriteShade s.ppu.spritesBehind x ly with
        | some shade => rfl
        | none => exact hback

/-- Settles O55: the line's shades are the composites of its pixels. -/
theorem pixelsOfALine : Obligations.PixelsOfALine := by
  intro s ly hly _
  refine ⟨s.lineShades ly, rfl, lineShades_length s ly, fun x hx => ?_⟩
  rw [List.getD_eq_getElem _ _ (by rwa [lineShades_length])]
  simp only [State.lineShades, List.getElem_map, List.getElem_range]
  exact composite_eq s hx hly

end Sys2Proof.Machine
end

section
/-! The host's actions (R471, R503): a button of its own, and a reset that forgets the session's past. -/

namespace Sys2Proof.Machine

open Sys2Proof.Claims

/-! ## Press and release (R471) -/

/-- Each button has its own line. -/
theorem isPressed_set (j k : Button) (v : Bool) (s : State) :
    isPressed j { s with buttons := s.buttons.set v k } = if j = k then v else isPressed j s := by
  cases k <;> cases j <;> rfl

/-- The buttons alone decide what is pressed. -/
theorem isPressed_raiseIF (k : Button) (s : State) (i : Nat) : isPressed k (s.raiseIF i) = isPressed k s := by
  cases k <;> rfl

/-! ## Reset (R503) -/

theorem act_args (k : HostAction) (x : Session) : (x.act k).args = x.args := by
  cases k with
  | reset =>
    unfold Session.act
    cases load x.args <;> rfl
  | _ => rfl

/-- No action changes what the session was loaded with. -/
theorem acts_args (acts : List HostAction) (x : Session) :
    (acts.foldl (fun y k => y.act k) x).args = x.args := by
  induction acts generalizing x with
  | nil => rfl
  | cons k acts ih => exact (ih (x.act k)).trans (act_args k x)

theorem startSession_ok {args : LoadArgs} {x : Session} (h : startSession args = .ok x) :
    load args = .ok x.state ∧ x.args = args := by
  unfold startSession at h
  cases hl : load args <;> rw [hl] at h <;> cases h
  exact ⟨rfl, rfl⟩

/-- A reset of a session loaded as `x` was is `x` itself. -/
theorem act_reset {x y : Session} (hargs : y.args = x.args) (h : load x.args = .ok x.state) :
    y.act .reset = x := by
  obtain ⟨args, s⟩ := x
  obtain ⟨args', u⟩ := y
  obtain rfl : args' = args := hargs
  simp only [Session.act, h]

/-- Settles O56: a button's update is seen by that button alone, and a reset loads what the session began with. -/
theorem hostActions : Obligations.HostActions := by
  refine ⟨fun k s => ⟨rfl, rfl, ?_, ?_, fun j hj => ⟨?_, ?_⟩⟩, fun args x acts h => ?_⟩
  · rw [press, isPressed_raiseIF, isPressed_set, if_pos rfl]
  · rw [release, isPressed_set, if_pos rfl]
  · rw [press, isPressed_raiseIF, isPressed_set, if_neg hj]
  · rw [release, isPressed_set, if_neg hj]
  · obtain ⟨hload, hargs⟩ := startSession_ok h
    exact act_reset (acts_args acts x) (by rw [hargs]; exact hload)

end Sys2Proof.Machine
end
